-- ==== Sys2Proof/Word.lean ====
section
/-!
DEFINITION. The widths the spec names: bytes of BUF, 32-bit registers and CSRs, 64-bit token values.
-/
namespace Sys2Proof

/-- One byte of BUF (R60). -/
abbrev Byte := BitVec 8

/-- A CSR or a cursor-wide register (R5: POS, LEN and CSR width 32). -/
abbrev Word := BitVec 32

/-- The VALUE field of a token (R94). -/
abbrev DWord := BitVec 64

end Sys2Proof
end

