-- ==== Sys2Proof/Syntax.lean ====
section
/-!
DEFINITION. The instructions: one constructor per row of spec/opcode_table.json, 38 micro-operations (R93) and the
two host commands. A micro-operation has no operand fields: its CLS bits select it or are don't-cares (R90). A host
command carries the whole CTRL word `v` the host writes (R202: its bit 2 goes to IRQ_EN).
-/
namespace Sys2Proof

inductive Instr where
  /-- IDLE, R120 -/
  | idle
  /-- LEN_CHK, R121 -/
  | lenChk
  /-- HDR_PRE, R122 -/
  | hdrPre
  /-- HDR_IMEI, R123 -/
  | hdrImei
  /-- HDR_ZERO, R124 -/
  | hdrZero
  /-- HDR_FLEN, R125 -/
  | hdrFlen
  /-- HDR_CODEC, R126 -/
  | hdrCodec
  /-- HDR_NREC, R128 -/
  | hdrNrec
  /-- REC_TS, R141 -/
  | recTs
  /-- REC_PRIO, R142 -/
  | recPrio
  /-- REC_LON, R143 -/
  | recLon
  /-- REC_LAT, R145 -/
  | recLat
  /-- REC_ALT, R146 -/
  | recAlt
  /-- REC_ANG, R147 -/
  | recAng
  /-- REC_SAT, R148 -/
  | recSat
  /-- REC_SPD, R149 -/
  | recSpd
  /-- IO_EVID, R161 -/
  | ioEvid
  /-- IO_TOTAL, R162 -/
  | ioTotal
  /-- GRP_CNT.1, R163 -/
  | grpCnt1
  /-- GRP_CNT.2, R164 -/
  | grpCnt2
  /-- GRP_CNT.4, R165 -/
  | grpCnt4
  /-- GRP_CNT.8, R166 -/
  | grpCnt8
  /-- GRP_CNT.X, R167 -/
  | grpCntX
  /-- ENT_ID.1, R168 -/
  | entId1
  /-- ENT_ID.2, R169 -/
  | entId2
  /-- ENT_ID.4, R170 -/
  | entId4
  /-- ENT_ID.8, R171 -/
  | entId8
  /-- ENT_ID.X, R172 -/
  | entIdX
  /-- ENT_VAL.1, R173 -/
  | entVal1
  /-- ENT_VAL.2, R174 -/
  | entVal2
  /-- ENT_VAL.4, R175 -/
  | entVal4
  /-- ENT_VAL.8, R176 -/
  | entVal8
  /-- VAR_LEN, R177 -/
  | varLen
  /-- VAR_DATA, R178 -/
  | varData
  /-- FTR_NREC2, R190 -/
  | ftrNrec2
  /-- FTR_CRC, R191 -/
  | ftrCrc
  /-- DONE, R192 -/
  | done
  /-- ERROR, R193 -/
  | error
  /-- START, R202: a CTRL write of `v` with bit 0 set -/
  | start (v : Word)
  /-- CLEAR, R203: a CTRL write of `v` with bit 1 set and bit 0 clear -/
  | clear (v : Word)
deriving DecidableEq, Repr

end Sys2Proof
end

