-- ==== Sys2Proof/WellFormed.lean ====
section
/-!
DEFINITION. Which terms of Instr stand for an instruction of the table. The micro-operations have no operand to
check; a host command's word must have the command bits of its row (opcode_table.json: START match 1 mask 1, CLEAR
match 2 mask 3).
-/
namespace Sys2Proof

/-- The checks on an instruction's operands, one arm per constructor. -/
def Instr.wf : Instr → Bool
  | .idle | .lenChk | .hdrPre | .hdrImei | .hdrZero | .hdrFlen | .hdrCodec | .hdrNrec => true
  | .recTs | .recPrio | .recLon | .recLat | .recAlt | .recAng | .recSat | .recSpd => true
  | .ioEvid | .ioTotal => true
  | .grpCnt1 | .grpCnt2 | .grpCnt4 | .grpCnt8 | .grpCntX => true
  | .entId1 | .entId2 | .entId4 | .entId8 | .entIdX => true
  | .entVal1 | .entVal2 | .entVal4 | .entVal8 => true
  | .varLen | .varData | .ftrNrec2 | .ftrCrc | .done | .error => true
  | .start v => v.getLsbD 0
  | .clear v => !v.getLsbD 0 && v.getLsbD 1

end Sys2Proof
end

