-- ==== Sys2Proof/Decode.lean ====
section
/-!
DEFINITION. The decoder and the encoder. A micro-operation is the 8-bit word UOP = {STATE, CLS} (R90), selected by
the opcode map of R93; a host command is a 32-bit CTRL word (R202, R203). Every word is read as one instruction or
rejected by the name of the reserved range of R103 it lies in.
-/
namespace Sys2Proof

/-- Why a word is no instruction: one name per line of R103, and one for a CTRL word that holds no command. -/
inductive DecodeReject where
  /-- 0x95 to 0x97 -/
  | grpCntClass
  /-- 0x9D to 0x9F -/
  | entIdClass
  /-- 0xA4 to 0xA7 -/
  | entValClass
  /-- 0xA8 to 0xAF but 0xAC -/
  | varLenClass
  /-- 0xB0 to 0xB7 but 0xB4 -/
  | varDataClass
  /-- 0xC8 to 0xEF: STATE 0x19 to 0x1D -/
  | reservedState
  /-- a CTRL write with bits 0 and 1 clear commands nothing (R46) -/
  | noCommand
deriving DecidableEq, Repr

/-- An instruction's word: a micro-operation's eight bits, or the word a CTRL write carries. -/
inductive Encoding where
  | uop (u : BitVec 8)
  | ctrl (v : Word)
deriving DecidableEq, Repr

/-- The column "canonical" of R93: the UOP with its don't-care CLS bits written as 0. A host command is no UOP; its
entry is never used. -/
def uopCode : Instr → BitVec 8
  | .idle => 0x00#8
  | .lenChk => 0x08#8
  | .hdrPre => 0x10#8
  | .hdrImei => 0x18#8
  | .hdrZero => 0x20#8
  | .hdrFlen => 0x28#8
  | .hdrCodec => 0x30#8
  | .hdrNrec => 0x38#8
  | .recTs => 0x40#8
  | .recPrio => 0x48#8
  | .recLon => 0x50#8
  | .recLat => 0x58#8
  | .recAlt => 0x60#8
  | .recAng => 0x68#8
  | .recSat => 0x70#8
  | .recSpd => 0x78#8
  | .ioEvid => 0x80#8
  | .ioTotal => 0x88#8
  | .grpCnt1 => 0x90#8
  | .grpCnt2 => 0x91#8
  | .grpCnt4 => 0x92#8
  | .grpCnt8 => 0x93#8
  | .grpCntX => 0x94#8
  | .entId1 => 0x98#8
  | .entId2 => 0x99#8
  | .entId4 => 0x9A#8
  | .entId8 => 0x9B#8
  | .entIdX => 0x9C#8
  | .entVal1 => 0xA0#8
  | .entVal2 => 0xA1#8
  | .entVal4 => 0xA2#8
  | .entVal8 => 0xA3#8
  | .varLen => 0xAC#8
  | .varData => 0xB4#8
  | .ftrNrec2 => 0xB8#8
  | .ftrCrc => 0xC0#8
  | .done => 0xF0#8
  | .error => 0xF8#8
  | .start _ => 0x00#8
  | .clear _ => 0x00#8

/-- The column "mask" of R93: 0xFF where the step reads CLS, else 0xF8. -/
def uopMask : Instr → BitVec 8
  | .grpCnt1 | .grpCnt2 | .grpCnt4 | .grpCnt8 | .grpCntX => 0xFF#8
  | .entId1 | .entId2 | .entId4 | .entId8 | .entIdX => 0xFF#8
  | .entVal1 | .entVal2 | .entVal4 | .entVal8 => 0xFF#8
  | .varLen | .varData => 0xFF#8
  | .idle | .lenChk | .hdrPre | .hdrImei | .hdrZero | .hdrFlen | .hdrCodec | .hdrNrec => 0xF8#8
  | .recTs | .recPrio | .recLon | .recLat | .recAlt | .recAng | .recSat | .recSpd => 0xF8#8
  | .ioEvid | .ioTotal | .ftrNrec2 | .ftrCrc | .done | .error => 0xF8#8
  | .start _ | .clear _ => 0x00#8

/-- The rows of R93, family by family. -/
def uopRows : List Instr :=
  [.idle, .lenChk, .hdrPre, .hdrImei, .hdrZero, .hdrFlen, .hdrCodec, .hdrNrec] ++
  [.recTs, .recPrio, .recLon, .recLat, .recAlt, .recAng, .recSat, .recSpd] ++
  [.ioEvid, .ioTotal, .grpCnt1, .grpCnt2, .grpCnt4, .grpCnt8, .grpCntX] ++
  [.entId1, .entId2, .entId4, .entId8, .entIdX, .entVal1, .entVal2, .entVal4, .entVal8] ++
  [.varLen, .varData, .ftrNrec2, .ftrCrc, .done, .error]

/-- A live UOP selects a row when (UOP & mask) == canonical (R93). -/
def rowMatches (u : BitVec 8) (i : Instr) : Bool := u &&& uopMask i == uopCode i

/-- The name of the line of R103 a word lies in, by its STATE bits. -/
def reservedName (u : BitVec 8) : DecodeReject :=
  if u.extractLsb' 3 5 = 0x12#5 then .grpCntClass
  else if u.extractLsb' 3 5 = 0x13#5 then .entIdClass
  else if u.extractLsb' 3 5 = 0x14#5 then .entValClass
  else if u.extractLsb' 3 5 = 0x15#5 then .varLenClass
  else if u.extractLsb' 3 5 = 0x16#5 then .varDataClass
  else .reservedState

/-- The micro-operation a live UOP selects, or the reserved range it lies in (R93, R103). -/
def decodeUop (u : BitVec 8) : Except DecodeReject Instr :=
  match uopRows.find? (rowMatches u) with
  | some i => .ok i
  | none => .error (reservedName u)

/-- The command of a CTRL write: bit 0 is START, whatever bit 1 holds; bit 1 alone is CLEAR (R202 to R204). -/
def decodeCtrl (v : Word) : Except DecodeReject Instr :=
  if v.getLsbD 0 then .ok (.start v)
  else if v.getLsbD 1 then .ok (.clear v)
  else .error .noCommand

/-- The decoder, total on both kinds of word. -/
def decode : Encoding → Except DecodeReject Instr
  | .uop u => decodeUop u
  | .ctrl v => decodeCtrl v

/-- The word of an instruction: the canonical UOP, or the CTRL word itself. -/
def encode : Instr → Encoding
  | .start v => .ctrl v
  | .clear v => .ctrl v
  | i => .uop (uopCode i)

/-- Which words of the opcode table's numbering are host commands: those wider than a UOP, and the two canonical
command words 1 and 2. Read as UOPs these two would be IDLE with CLS 1 or 2, which no run holds, since every way into
IDLE sets CLS to 0 (R44, R203; log 8). -/
def isCommandWord (nbits w : Nat) : Bool := decide (8 < nbits) || w == 1 || w == 2

/-- The word of a table row, as the hardware holds it. -/
def tableEncoding (nbits w : Nat) : Encoding :=
  if isCommandWord nbits w then .ctrl (BitVec.ofNat 32 w) else .uop (BitVec.ofNat 8 w)

/-- The instruction the decoder reads from a word numbered as spec/opcode_table.json numbers it (log 8). -/
def decodeTableWord (nbits w : Nat) : Option Instr :=
  match decode (tableEncoding nbits w) with
  | .ok i => some i
  | .error _ => none

end Sys2Proof
end

