-- ==== Sys2Proof/Config.lean ====
section
/-!
DEFINITION. The implementation parameters of R5. MAX_LEN and OUT_DEPTH are OPEN: each is built from a constant
with no body, so that a proof holds for every value the spec allows (log 1). The blocks of
a platform share both (log 24).
-/
namespace Sys2Proof

/-- MIN_LEN, the InvalidLength threshold (R5). -/
def Config.minLen : Nat := 20

/-- HDR_BYTES (R5, R80). -/
def Config.hdrBytes : Nat := 27

/-- FTR_BYTES (R5, R84). -/
def Config.ftrBytes : Nat := 5

/-- The block revision that PARAM[31:16] reads (R56). -/
def Config.revision : BitVec 16 := 0x0001#16

/-- How many places OUTQ has beyond the two that R5 guarantees: no value of it can be known. -/
opaque Config.outDepthExtra : Nat

/-- OUT_DEPTH, the capacity of OUTQ in tokens: any number from 2 up (R5, R96; log 1). -/
def Config.outDepth : Nat := Config.outDepthExtra + 2

/-- What MAX_LEN is made from: no value of it can be known. -/
opaque Config.maxLenExtra : Nat

/-- MAX_LEN, the capacity of BUF in bytes: any number with 32 ≤ MAX_LEN ≤ 2^32 − 1 (R5; log 1). -/
def Config.maxLen : Nat := Config.maxLenExtra % (2 ^ 32 - 32) + 32

end Sys2Proof
end

