-- ==== Sys2Proof/Machine/Codes.lean ====
section
/-!
DEFINITION. The codes the spec gives names: states (R92), width classes (R91), error kinds (R220), CSR offsets (R45)
and the tags of the END tokens (R94).
-/
namespace Sys2Proof.Machine

@[simp] abbrev StateCode.idle : BitVec 5 := 0x00#5
@[simp] abbrev StateCode.lenChk : BitVec 5 := 0x01#5
@[simp] abbrev StateCode.hdrPre : BitVec 5 := 0x02#5
@[simp] abbrev StateCode.hdrImei : BitVec 5 := 0x03#5
@[simp] abbrev StateCode.hdrZero : BitVec 5 := 0x04#5
@[simp] abbrev StateCode.hdrFlen : BitVec 5 := 0x05#5
@[simp] abbrev StateCode.hdrCodec : BitVec 5 := 0x06#5
@[simp] abbrev StateCode.hdrNrec : BitVec 5 := 0x07#5
@[simp] abbrev StateCode.recTs : BitVec 5 := 0x08#5
@[simp] abbrev StateCode.recPrio : BitVec 5 := 0x09#5
@[simp] abbrev StateCode.recLon : BitVec 5 := 0x0A#5
@[simp] abbrev StateCode.recLat : BitVec 5 := 0x0B#5
@[simp] abbrev StateCode.recAlt : BitVec 5 := 0x0C#5
@[simp] abbrev StateCode.recAng : BitVec 5 := 0x0D#5
@[simp] abbrev StateCode.recSat : BitVec 5 := 0x0E#5
@[simp] abbrev StateCode.recSpd : BitVec 5 := 0x0F#5
@[simp] abbrev StateCode.ioEvid : BitVec 5 := 0x10#5
@[simp] abbrev StateCode.ioTotal : BitVec 5 := 0x11#5
@[simp] abbrev StateCode.grpCnt : BitVec 5 := 0x12#5
@[simp] abbrev StateCode.entId : BitVec 5 := 0x13#5
@[simp] abbrev StateCode.entVal : BitVec 5 := 0x14#5
@[simp] abbrev StateCode.varLen : BitVec 5 := 0x15#5
@[simp] abbrev StateCode.varData : BitVec 5 := 0x16#5
@[simp] abbrev StateCode.ftrNrec2 : BitVec 5 := 0x17#5
@[simp] abbrev StateCode.ftrCrc : BitVec 5 := 0x18#5
@[simp] abbrev StateCode.done : BitVec 5 := 0x1E#5
@[simp] abbrev StateCode.error : BitVec 5 := 0x1F#5

/-- The three error kinds (R220 to R223). -/
inductive ErrKind where
  /-- LEN_CHK: LEN < 20 (R221) -/
  | invalidLength
  /-- any read of more bytes than remain (R222) -/
  | truncatedFrame
  /-- HDR_IMEI: an identity byte at or above 0x80 (R223) -/
  | invalidEncoding
deriving DecidableEq, Repr

/-- The code of an error kind in ERR; 0 is NONE and 4 to 7 are never produced (R220). -/
def errCode : ErrKind → BitVec 3
  | .invalidLength => 1#3
  | .truncatedFrame => 2#3
  | .invalidEncoding => 3#3

@[simp] abbrev Csr.ctrl : Word := 0x00#32
@[simp] abbrev Csr.status : Word := 0x04#32
@[simp] abbrev Csr.len : Word := 0x08#32
@[simp] abbrev Csr.pos : Word := 0x0C#32
@[simp] abbrev Csr.errinfo : Word := 0x10#32
@[simp] abbrev Csr.errPos : Word := 0x14#32
@[simp] abbrev Csr.flen : Word := 0x18#32
@[simp] abbrev Csr.hdrinfo : Word := 0x1C#32
@[simp] abbrev Csr.crc : Word := 0x20#32
@[simp] abbrev Csr.imei0 : Word := 0x24#32
@[simp] abbrev Csr.imei1 : Word := 0x28#32
@[simp] abbrev Csr.imei2 : Word := 0x2C#32
@[simp] abbrev Csr.imei3 : Word := 0x30#32
@[simp] abbrev Csr.param : Word := 0x34#32

/-- All four byte lanes of a CSR access (R77). -/
abbrev allLanes : BitVec 4 := 0xF#4

/-- The TAG of END_OK (R94). -/
@[simp] abbrev tagEndOk : BitVec 8 := 0xF0#8

/-- The TAG of END_ERR (R94). -/
@[simp] abbrev tagEndErr : BitVec 8 := 0xF8#8

end Sys2Proof.Machine
end

