-- ==== Sys2Proof/Machine/State.lean ====
section
/-!
DEFINITION. The state of the block: every register of 10_state.md (R21 to R33), OUTQ and BUF; and, beside them, the
model's own record of what the host and the token consumer do and get (the last group of fields).
-/
namespace Sys2Proof.Machine

/-- One output token (R94); `Token.word` gives its 96 bits. -/
structure Token where
  /-- bits 95:88: the canonical UOP of the emitting step, 0xF0 for END_OK, 0xF8 for END_ERR -/
  tag : BitVec 8
  /-- bits 87:80 (REC): REC_DONE when the token is emitted -/
  recNo : BitVec 8
  /-- bits 79:64 (ID): the io id of an ENT_VAL.c or VAR_DATA token, else 0 -/
  ioId : BitVec 16
  /-- bits 63:0 (VALUE), packed as R97 says -/
  value : DWord
deriving DecidableEq, Repr

/-- BUF as a list of (offset, byte) pairs, offsets strictly rising. A byte that is not listed has never been written
and has no value (R252; log 2). -/
abbrev Memory := List Host.Cell

/-- What an agent does next (R20, R200). `engine` is the engine's turn; the others are the five host actions. -/
inductive Move where
  /-- the engine takes one step (R9) -/
  | engine
  /-- (a) a CSR write at a byte offset, with the byte lanes it uses (R77, R201) -/
  | csrWrite (off : Word) (lanes : BitVec 4) (v : Word)
  /-- (b) a CSR read (R207) -/
  | csrRead (off : Word) (lanes : BitVec 4)
  /-- (c) a write of bytes into BUF from an offset up (R209) -/
  | bufWrite (off : Nat) (bytes : List Byte)
  /-- (d) the consumer takes the head token of OUTQ (R208) -/
  | pop
  /-- (e) reset is asserted and released (R250) -/
  | reset
deriving DecidableEq, Repr

structure State where
  /-- STATE (R21, codes R92) -/
  state : BitVec 5
  /-- CLS, the width class (R21, codes R91) -/
  cls : BitVec 3
  /-- POS, the cursor (R22) -/
  pos : Word
  /-- LEN (R23) -/
  len : Word
  /-- IMEI[0..14], the first byte on the wire first (R24) -/
  imei : Vector Byte 15
  /-- FLEN (R24) -/
  flen : Word
  /-- CODEC (R24) -/
  codec : BitVec 8
  /-- NREC (R24) -/
  nrec : BitVec 8
  /-- NREC2 (R25) -/
  nrec2 : BitVec 8
  /-- CRC, the first checksum byte in bits 31:24 (R25) -/
  crc : Word
  /-- REC_DONE (R26) -/
  recDone : BitVec 8
  /-- TOTAL (R27) -/
  total : BitVec 16
  /-- SUMK (R27) -/
  sumk : BitVec 19
  /-- K (R28) -/
  k : BitVec 16
  /-- IDX (R28) -/
  idx : BitVec 16
  /-- ID (R29) -/
  id : BitVec 16
  /-- N (R29) -/
  n : BitVec 16
  /-- ERR (R30, codes R220) -/
  err : BitVec 3
  /-- ERR_UOP (R30) -/
  errUop : BitVec 8
  /-- ERR_POS (R30) -/
  errPos : Word
  /-- CMM (R31) -/
  cmm : Bool
  /-- IRQ_EN (R32) -/
  irqEn : Bool
  /-- OUTQ, the head first (R33) -/
  outq : List Token
  /-- BUF (R60, R61) -/
  buf : Memory
  /-- the model's own: the BUF offsets written since the last reset, strictly rising (R253; log 3) -/
  written : List Nat
  /-- the model's own: what the agents do next, in order; when it is empty the engine moves (R200; log 4) -/
  agenda : List Move
  /-- the model's own: what the last CSR read returned to the host (R207; log 7) -/
  rdata : Word
  /-- the model's own: the popped tokens of a token frame that has not ended (R98, R213; log 7) -/
  partialFrame : List Token
  /-- the model's own: the token frames the consumer has whole, each closed by END_OK (R98, R213; log 7) -/
  frames : List (List Token)
deriving DecidableEq, Repr

/-- Why the machine stops with a fault. -/
inductive Fault where
  /-- raised by the engine's turn on a reserved UOP, which R104 says has no successor: safe, the model stops where
  the engine is stuck; no run reaches it. Moves of the host and the consumer do not raise it, which is the model's choice
  (log 25) -/
  | reservedUop (u : BitVec 8)
  /-- raised by the engine's read of bytes from `off` up of which one was never written, whose value R252 leaves
  unknown: safe; START refuses every run that would reach it (R253) -/
  | bufUnwritten (off : Nat)
  /-- raised by a host write to a BUF offset at or above MAX_LEN, which does not exist (R60, R209): safe -/
  | bufOutOfRange (off : Nat)
deriving DecidableEq, Repr

/-- Why the model has no meaning for a move. -/
inductive Refusal where
  /-- raised by an arm of exec whose instruction has no meaning yet: safe -/
  | notModelled (mnemonic : String)
  /-- raised by a BUF write while BUSY, which R255 says a model refuses: safe -/
  | bufWriteWhileBusy
  /-- raised by START with LEN above MAX_LEN, which R253 says a model refuses: safe -/
  | startLenBeyondMaxLen
  /-- raised by START over a byte of BUF[0 .. LEN-1] unwritten since reset, which R253 says a model refuses: safe -/
  | startUnwrittenByte
  /-- raised by a CSR access that is not an aligned 32-bit word, which R77 says a model refuses: safe -/
  | csrNotAlignedWord
deriving DecidableEq, Repr

/-- The machine right after power-on reset: R44's table; BUF holds nothing known, and the agents' record is empty
(log 2, log 19). -/
def State.reset : State where
  state := 0x00#5
  cls := 0#3
  pos := 0#32
  len := 0#32
  imei := Vector.replicate 15 0#8
  flen := 0#32
  codec := 0#8
  nrec := 0#8
  nrec2 := 0#8
  crc := 0#32
  recDone := 0#8
  total := 0#16
  sumk := 0#19
  k := 0#16
  idx := 0#16
  id := 0#16
  n := 0#16
  err := 0#3
  errUop := 0#8
  errPos := 0#32
  cmm := false
  irqEn := false
  outq := []
  buf := []
  written := []
  agenda := []
  rdata := 0#32
  partialFrame := []
  frames := []

end Sys2Proof.Machine
end

