-- ==== Sys2Proof/Machine/Flags.lean ====
section
/-!
DEFINITION. The flags: functions of state, not registers (R34, R47, R232), and the count-mismatch rule (R179).
-/
namespace Sys2Proof.Machine

/-- UOP = {STATE, CLS}, the live micro-operation word (R21). -/
def uop (s : State) : BitVec 8 := s.state ++ s.cls

/-- DONE (R34). -/
def doneFlag (s : State) : Bool := s.state == StateCode.done

/-- ERROR (R34). -/
def errorFlag (s : State) : Bool := s.state == StateCode.error

/-- BUSY: STATE is none of IDLE, DONE and ERROR (R34). -/
def busy (s : State) : Bool := !(s.state == StateCode.idle || doneFlag s || errorFlag s)

/-- IRQ_PEND (R34). -/
def irqPend (s : State) : Bool := doneFlag s || errorFlag s

/-- The interrupt line, level-sensitive (R232). -/
def irq (s : State) : Bool := s.irqEn && irqPend s

/-- STATUS bit 13 (R47). -/
def outqEmpty (s : State) : Bool := s.outq.length == 0

/-- STATUS bit 14 (R47). -/
def outqFull (s : State) : Bool := s.outq.length == Config.outDepth

/-- The count-mismatch diagnostic after a record whose sub-group counts add up to `sk`: sticky (R179, R31). -/
def cmmAfter (cmm : Bool) (sk : Nat) (total : BitVec 16) : Bool := cmm || sk != total.toNat

/-- The hold test of R96: OUTQ has room for `t` more tokens. -/
def hasRoom (t : Nat) (s : State) : Bool := decide (s.outq.length + t ≤ Config.outDepth)

end Sys2Proof.Machine
end

