-- ==== Sys2Proof/Machine/Operands.lean ====
section
/-!
DEFINITION. Operand forms: big-endian fields (R7, R64), read widths and token counts per step (R93), the coordinate
converter COORD_SM (R144), and the token packings (R94, R97).
-/
namespace Sys2Proof.Machine

/-- be(b0, …, b(n-1)): the first byte read is the most significant (R7). -/
def be (bs : List Byte) : Nat := bs.foldl (fun acc b => acc * 256 + b.toNat) 0

/-- A read field as a big-endian unsigned value of `w` bits (R64): u8, u16, u32 and u64 of R7. -/
def field (w : Nat) (bs : List Byte) : BitVec w := BitVec.ofNat w (be bs)

/-- zext_64 of R6. -/
def zext64 {w : Nat} (v : BitVec w) : DWord := v.setWidth 64

/-- The fifteen identity bytes, IMEI[i] being the i-th byte read (R24, R65). -/
def imeiOf (bs : List Byte) : Vector Byte 15 :=
  #v[bs.getD 0 0, bs.getD 1 0, bs.getD 2 0, bs.getD 3 0, bs.getD 4 0, bs.getD 5 0, bs.getD 6 0, bs.getD 7 0,
     bs.getD 8 0, bs.getD 9 0, bs.getD 10 0, bs.getD 11 0, bs.getD 12 0, bs.getD 13 0, bs.getD 14 0]

/-- "Valid ASCII": every byte is below 0x80 (R223). -/
def allAscii (bs : List Byte) : Bool := bs.all (fun b => decide (b.toNat < 0x80))

/-- The column "read" of R93: how many bytes the step reads. VAR_DATA reads N bytes; LEN_CHK, the resting states and
the host commands read none. -/
def readWidth (i : Instr) (s : State) : Nat :=
  match i with
  | .idle | .lenChk | .done | .error | .start _ | .clear _ => 0
  | .hdrPre => 2
  | .hdrImei => 15
  | .hdrZero | .hdrFlen => 4
  | .hdrCodec | .hdrNrec => 1
  | .recTs => 8
  | .recPrio => 1
  | .recLon | .recLat => 4
  | .recAlt | .recAng => 2
  | .recSat => 1
  | .recSpd => 2
  | .ioEvid | .ioTotal => 2
  | .grpCnt1 | .grpCnt2 | .grpCnt4 | .grpCnt8 | .grpCntX => 2
  | .entId1 | .entId2 | .entId4 | .entId8 | .entIdX => 2
  | .entVal1 => 1
  | .entVal2 => 2
  | .entVal4 => 4
  | .entVal8 => 8
  | .varLen => 2
  | .varData => s.n.toNat
  | .ftrNrec2 => 1
  | .ftrCrc => 4

/-- The column "tokens" of R93: how many tokens the step emits on success. -/
def successTokens : Instr → Nat
  | .idle | .lenChk | .hdrPre | .hdrZero | .done | .error | .start _ | .clear _ => 0
  | .hdrImei | .hdrFlen | .hdrCodec | .hdrNrec => 1
  | .recTs | .recPrio | .recLon | .recLat | .recAlt | .recAng | .recSat | .recSpd => 1
  | .ioEvid | .ioTotal => 1
  | .grpCnt1 | .grpCnt2 | .grpCnt4 | .grpCnt8 | .grpCntX => 1
  | .entId1 | .entId2 | .entId4 | .entId8 | .entIdX | .varLen => 0
  | .entVal1 | .entVal2 | .entVal4 | .entVal8 | .varData => 1
  | .ftrNrec2 => 1
  | .ftrCrc => 2

/-- s of COORD_SM: bit 31 of u (R144). -/
def coordSign (u : Word) : Bool := u.getLsbD 31

/-- m of COORD_SM: u, or its 32-bit complement with NO increment when bit 31 is set (R144, R152). -/
def coordMag (u : Word) : Word := if coordSign u then u ^^^ 0xFFFFFFFF#32 else u

/-- VALUE of a REC_LON or REC_LAT token: m in bits 63:33, s in bit 32, u in bits 31:0 (R97). -/
def coordValue (u : Word) : DWord :=
  (coordMag u).extractLsb' 0 31 ++ BitVec.ofBool (coordSign u) ++ u

/-- A reference to BUF[start .. start+length-1] (R97, R101). -/
def refValue (start length : Word) : DWord := start ++ length

/-- VALUE of END_OK: CMM in bit 32, the final cursor in bits 31:0 (R97). -/
def endOkValue (cmm : Bool) (p : Word) : DWord := 0#31 ++ BitVec.ofBool cmm ++ p

/-- VALUE of END_ERR: ERR_POS, 16 zeros, ERR_UOP, 5 zeros, ERR (R97). -/
def endErrValue (p : Word) (u : BitVec 8) (e : BitVec 3) : DWord := p ++ 0#16 ++ u ++ 0#5 ++ e

/-- The 96 bits of a token (R94). -/
def tokenWord (t : Token) : BitVec 96 := t.tag ++ t.recNo ++ t.ioId ++ t.value

/-- The token whose 96 bits are `w` (R94). -/
def tokenOfWord (w : BitVec 96) : Token where
  tag := w.extractLsb' 88 8
  recNo := w.extractLsb' 80 8
  ioId := w.extractLsb' 64 16
  value := w.extractLsb' 0 64

/-- The token a step emits for its own field: its TAG is its canonical UOP (R94). -/
def fieldToken (i : Instr) (recNo : BitVec 8) (ioId : BitVec 16) (value : DWord) : Token where
  tag := uopCode i
  recNo := recNo
  ioId := ioId
  value := value

/-- END_OK (R191). -/
def endOkToken (recNo : BitVec 8) (cmm : Bool) (p : Word) : Token where
  tag := tagEndOk
  recNo := recNo
  ioId := 0#16
  value := endOkValue cmm p

/-- END_ERR (R226). -/
def endErrToken (recNo : BitVec 8) (p : Word) (u : BitVec 8) (e : BitVec 3) : Token where
  tag := tagEndErr
  recNo := recNo
  ioId := 0#16
  value := endErrValue p u e

end Sys2Proof.Machine
end

