-- ==== Sys2Proof/Machine/Ops.lean ====
section
/-!
DEFINITION. The named operations: BUF, the primitives of R8 (read, emit, goto, raise), the shape every step has
(bounds test, hold test, read, effect), ERROR ENTRY as one shared operation (R226) with the clearing that START and
CLEAR share beside it (R202, R203: the block has no return from an error, R230), and the shared successor procedures
of R160.
-/
namespace Sys2Proof.Machine

/-! ### BUF -/

/-- The canonical form of BUF: offsets strictly rising. -/
abbrev Memory.wf (m : Memory) : Prop := m.Pairwise (fun c d => c.1 < d.1)

/-- The byte at an offset, or none where nothing was ever written (R252; log 2). -/
def readByte : Memory → Nat → Option Byte
  | [], _ => none
  | c :: m, a => if c.1 = a then some c.2 else readByte m a

/-- BUF with one byte written, the canonical form kept. -/
def writeByte : Memory → Nat → Byte → Memory
  | [], a, b => [(a, b)]
  | c :: m, a, b =>
    if a < c.1 then (a, b) :: c :: m
    else if a = c.1 then (a, b) :: m
    else c :: writeByte m a b

/-- MemRead(a, n): the n bytes from offset a up, or none where one of them was never written (R62). -/
def readBytes (m : Memory) : Nat → Nat → Option (List Byte)
  | _, 0 => some []
  | a, n + 1 =>
    match readByte m a, readBytes m (a + 1) n with
    | some b, some bs => some (b :: bs)
    | _, _ => none

/-- Bytes written at offsets a, a+1, … (R209). -/
def writeBytes (m : Memory) : Nat → List Byte → Memory
  | _, [] => m
  | a, b :: bs => writeBytes (writeByte m a b) (a + 1) bs

/-- The record of written offsets with one more, kept strictly rising (log 3). -/
def markOffset : List Nat → Nat → List Nat
  | [], a => [a]
  | c :: l, a => if a < c then a :: c :: l else if a = c then c :: l else c :: markOffset l a

/-- The record of written offsets with `n` more, from `a` up. -/
def markOffsets (l : List Nat) : Nat → Nat → List Nat
  | _, 0 => l
  | a, n + 1 => markOffsets (markOffset l a) (a + 1) n

/-- Every byte of BUF[0 .. n-1] has been written since the last reset (R253). -/
def allWritten (l : List Nat) (n : Nat) : Bool := (List.range n).all (fun a => l.contains a)

/-! ### Registers -/

/-- goto S: STATE is set, CLS keeps its value (R8, R90). -/
def goto (c : BitVec 5) (s : State) : State := { s with state := c }

/-- goto S.c: STATE and CLS are set (R8). -/
def gotoClass (c : BitVec 5) (w : BitVec 3) (s : State) : State := { s with state := c, cls := w }

/-- POS <- POS + n (R63). -/
def advance (n : Nat) (s : State) : State := { s with pos := BitVec.ofNat 32 (s.pos.toNat + n) }

/-- emit, for the tokens of one step in the order its rule lists them (R95). -/
def emit (toks : List Token) (s : State) : State := { s with outq := s.outq ++ toks }

/-! ### Errors -/

/-- ERROR ENTRY (R226): the failing step, of canonical code `u`, leaves every register as it was but ERR, ERR_UOP,
ERR_POS and STATE, and END_ERR is emitted. -/
def errorEntry (u : BitVec 8) (e : ErrKind) (s : State) : State :=
  emit [endErrToken s.recDone s.pos u (errCode e)]
    (goto StateCode.error { s with err := errCode e, errUop := u, errPos := s.pos })

/-- raise E (R226) behind the hold test for its one token (R96). -/
def raiseError (i : Instr) (e : ErrKind) (s : State) : Host.Outcome State Fault Refusal :=
  if hasRoom 1 s then .next (errorEntry (uopCode i) e s) else .next s

/-- What START and CLEAR clear: every register of R21 to R31 (R202, R36); STATE becomes `c`. LEN, IRQ_EN, BUF and OUTQ
stay. -/
def clearDecode (c : BitVec 5) (s : State) : State :=
  { s with
    state := c, cls := 0#3, pos := 0#32,
    imei := Vector.replicate 15 0#8, flen := 0#32, codec := 0#8, nrec := 0#8, nrec2 := 0#8, crc := 0#32,
    recDone := 0#8, total := 0#16, sumk := 0#19, k := 0#16, idx := 0#16, id := 0#16, n := 0#16,
    err := 0#3, errUop := 0#8, errPos := 0#32, cmm := false }

/-! ### The shape of a step -/

/-- What a step does once its bytes are read: write registers and emit tokens, or raise an error. -/
inductive Effect where
  | commit (toks : List Token) (s : State)
  | raise (e : ErrKind)

/-- The end of a step: its tokens appended, or its error entered. `s` is the state before the step. -/
def finish (i : Instr) (s : State) : Effect → Host.Outcome State Fault Refusal
  | .commit toks s' => .next (emit toks s')
  | .raise e => raiseError i e s

/-- A reading step (R63, R96): if fewer than n bytes remain it raises TruncatedFrame; if OUTQ lacks room for its tokens
it holds and nothing changes; else it reads, POS advances, and `body` says the rest from the bytes and the state with
POS advanced. The bounds test LEN − POS < n of R63 is written POS + n ≤ LEN, over the naturals (log 9). -/
def extract (i : Instr) (body : List Byte → State → Effect) (s : State) : Host.Outcome State Fault Refusal :=
  if s.pos.toNat + readWidth i s ≤ s.len.toNat then
    if hasRoom (successTokens i) s then
      match readBytes s.buf s.pos.toNat (readWidth i s) with
      | some bs => finish i s (body bs (advance (readWidth i s) s))
      | none => .fault (.bufUnwritten s.pos.toNat)
    else .next s
  else raiseError i .truncatedFrame s

/-! ### The shared successor procedures (R160)

`c` is the width class of the calling step, which CLS holds whenever the step is selected (log 11). Sums and
comparisons are over the naturals; what is stored is narrowed to the register (log 10). -/

/-- END_RECORD(sk). -/
def endRecord (sk : Nat) (s : State) : State :=
  goto (if s.recDone.toNat + 1 = s.nrec.toNat then StateCode.ftrNrec2 else StateCode.recTs)
    { s with cmm := cmmAfter s.cmm sk s.total, recDone := BitVec.ofNat 8 (s.recDone.toNat + 1) }

/-- END_GROUP(sk). -/
def endGroup (c : BitVec 3) (sk : Nat) (s : State) : State :=
  if c.toNat < 4 then gotoClass StateCode.grpCnt (c + 1#3) s else endRecord sk s

/-- END_ENTRY(). -/
def endEntry (c : BitVec 3) (s : State) : State :=
  if s.idx.toNat + 1 = s.k.toNat then
    endGroup c s.sumk.toNat { s with idx := BitVec.ofNat 16 (s.idx.toNat + 1) }
  else gotoClass StateCode.entId c { s with idx := BitVec.ofNat 16 (s.idx.toNat + 1) }

end Sys2Proof.Machine
end

