-- ==== Sys2Proof/Machine/Command.lean ====
section
/-!
DEFINITION. The host commands (44_host_commands.md): a CTRL write of `v`. IRQ_EN takes bit 2 first, whatever becomes of
the command (R204); a command while BUSY is ignored (R210).
-/
namespace Sys2Proof.Machine

/-- IRQ_EN takes bit 2 of the written word (R204, R211). -/
def setIrqEn (v : Word) (s : State) : State := { s with irqEn := v.getLsbD 2 }

/-- START (R202). With LEN above MAX_LEN, or over a byte unwritten since reset, the model refuses it (R253). -/
def execStart (v : Word) (s : State) : Host.Outcome State Fault Refusal :=
  if busy s then .next (setIrqEn v s)
  else if Config.maxLen < s.len.toNat then .refused .startLenBeyondMaxLen
  else if allWritten s.written s.len.toNat then .next (clearDecode StateCode.lenChk (setIrqEn v s))
  else .refused .startUnwrittenByte

/-- CLEAR (R203). -/
def execClear (v : Word) (s : State) : Host.Outcome State Fault Refusal :=
  if busy s then .next (setIrqEn v s) else .next (clearDecode StateCode.idle (setIrqEn v s))

end Sys2Proof.Machine
end

