-- ==== Sys2Proof/Machine/Footer.lean ====
section
/-!
DEFINITION. The footer family and the resting states DONE and ERROR (43_footer.md). Footer tokens carry REC = NREC,
as the rules write it (log 12). Nothing in the footer is validated (R194).
-/
namespace Sys2Proof.Machine

/-- FTR_NREC2 (R190). -/
def execFtrNrec2 (s : State) : Host.Outcome State Fault Refusal :=
  extract .ftrNrec2 (fun bs s' =>
    .commit [fieldToken .ftrNrec2 s.nrec 0#16 (zext64 (field 8 bs))]
      (goto StateCode.ftrCrc { s' with nrec2 := field 8 bs })) s

/-- FTR_CRC (R191): the checksum and END_OK, which reports the final cursor and CMM. -/
def execFtrCrc (s : State) : Host.Outcome State Fault Refusal :=
  extract .ftrCrc (fun bs s' =>
    .commit [fieldToken .ftrCrc s.nrec 0#16 (zext64 (field 32 bs)), endOkToken s.nrec s.cmm s'.pos]
      (goto StateCode.done { s' with crc := field 32 bs })) s

/-- DONE (R192): the engine has no step; nothing changes (log 5). -/
def execDone (s : State) : Host.Outcome State Fault Refusal := .next s

/-- ERROR (R193): the engine has no step; nothing changes (log 5). -/
def execError (s : State) : Host.Outcome State Fault Refusal := .next s

end Sys2Proof.Machine
end

