-- ==== Sys2Proof/Machine/Header.lean ====
section
/-!
DEFINITION. The header family (40_header.md): IDLE, LEN_CHK and the HDR_* steps. Header tokens carry REC = 0, as the
rules write it (log 12).
-/
namespace Sys2Proof.Machine

/-- IDLE (R120): the engine has no step; nothing changes (log 5). -/
def execIdle (s : State) : Host.Outcome State Fault Refusal := .next s

/-- LEN_CHK (R121): no byte of BUF is read. -/
def execLenChk (s : State) : Host.Outcome State Fault Refusal :=
  if s.len.toNat < Config.minLen then raiseError .lenChk .invalidLength s
  else if hasRoom (successTokens .lenChk) s then .next (goto StateCode.hdrPre s)
  else .next s

/-- HDR_PRE (R122): two bytes, discarded and not checked. -/
def execHdrPre (s : State) : Host.Outcome State Fault Refusal :=
  extract .hdrPre (fun _ s' => .commit [] (goto StateCode.hdrImei s')) s

/-- HDR_IMEI (R123): fifteen bytes, each below 0x80, else InvalidEncoding. The token refers to BUF[2..16]. -/
def execHdrImei (s : State) : Host.Outcome State Fault Refusal :=
  extract .hdrImei (fun bs s' =>
    if allAscii bs then
      .commit [fieldToken .hdrImei 0#8 0#16 (refValue 2#32 15#32)]
        (goto StateCode.hdrZero { s' with imei := imeiOf bs })
    else .raise .invalidEncoding) s

/-- HDR_ZERO (R124): four bytes, discarded and not checked against zero. -/
def execHdrZero (s : State) : Host.Outcome State Fault Refusal :=
  extract .hdrZero (fun _ s' => .commit [] (goto StateCode.hdrFlen s')) s

/-- HDR_FLEN (R125). -/
def execHdrFlen (s : State) : Host.Outcome State Fault Refusal :=
  extract .hdrFlen (fun bs s' =>
    .commit [fieldToken .hdrFlen 0#8 0#16 (zext64 (field 32 bs))]
      (goto StateCode.hdrCodec { s' with flen := field 32 bs })) s

/-- HDR_CODEC (R126): every value is accepted and selects nothing (R127). -/
def execHdrCodec (s : State) : Host.Outcome State Fault Refusal :=
  extract .hdrCodec (fun bs s' =>
    .commit [fieldToken .hdrCodec 0#8 0#16 (zext64 (field 8 bs))]
      (goto StateCode.hdrNrec { s' with codec := field 8 bs })) s

/-- HDR_NREC (R128): the branch tests the value just read. -/
def execHdrNrec (s : State) : Host.Outcome State Fault Refusal :=
  extract .hdrNrec (fun bs s' =>
    .commit [fieldToken .hdrNrec 0#8 0#16 (zext64 (field 8 bs))]
      (goto (if field 8 bs = 0#8 then StateCode.ftrNrec2 else StateCode.recTs) { s' with nrec := field 8 bs })) s

end Sys2Proof.Machine
end

