-- ==== Sys2Proof/Machine/IoElement.lean ====
section
/-!
DEFINITION. The IO element family (42_io_element.md): the variable-record-group decoder. The width classes 0 to 4 are
written `.1 .2 .4 .8 .X` in the mnemonics (R91).
-/
namespace Sys2Proof.Machine

/-- IO_EVID (R161): 0 is read like any other value. -/
def execIoEvid (s : State) : Host.Outcome State Fault Refusal :=
  extract .ioEvid (fun bs s' =>
    .commit [fieldToken .ioEvid s.recDone 0#16 (zext64 (field 16 bs))] (goto StateCode.ioTotal s')) s

/-- IO_TOTAL (R162): advisory; it bounds nothing (R181). -/
def execIoTotal (s : State) : Host.Outcome State Fault Refusal :=
  extract .ioTotal (fun bs s' =>
    .commit [fieldToken .ioTotal s.recDone 0#16 (zext64 (field 16 bs))]
      (gotoClass StateCode.grpCnt 0#3 { s' with total := field 16 bs, sumk := 0#19 })) s

/-- The shared form of GRP_CNT.c (R163). -/
def groupCount (i : Instr) (c : BitVec 3) (s : State) : Host.Outcome State Fault Refusal :=
  extract i (fun bs s' =>
    .commit [fieldToken i s.recDone 0#16 (zext64 (field 16 bs))]
      (if field 16 bs = 0#16 then
        endGroup c (s.sumk.toNat + (field 16 bs).toNat)
          { s' with k := field 16 bs, idx := 0#16, sumk := BitVec.ofNat 19 (s.sumk.toNat + (field 16 bs).toNat) }
      else
        gotoClass StateCode.entId c
          { s' with k := field 16 bs, idx := 0#16,
                    sumk := BitVec.ofNat 19 (s.sumk.toNat + (field 16 bs).toNat) })) s

/-- GRP_CNT.1 (R163). -/
def execGrpCnt1 (s : State) : Host.Outcome State Fault Refusal := groupCount .grpCnt1 0#3 s

/-- GRP_CNT.2 (R164). -/
def execGrpCnt2 (s : State) : Host.Outcome State Fault Refusal := groupCount .grpCnt2 1#3 s

/-- GRP_CNT.4 (R165). -/
def execGrpCnt4 (s : State) : Host.Outcome State Fault Refusal := groupCount .grpCnt4 2#3 s

/-- GRP_CNT.8 (R166). -/
def execGrpCnt8 (s : State) : Host.Outcome State Fault Refusal := groupCount .grpCnt8 3#3 s

/-- GRP_CNT.X (R167): with k = 0 it ends the record. -/
def execGrpCntX (s : State) : Host.Outcome State Fault Refusal := groupCount .grpCntX 4#3 s

/-- The shared form of ENT_ID.c for a fixed class (R168): no token, the id travels in the value's token. -/
def entryId (i : Instr) (c : BitVec 3) (s : State) : Host.Outcome State Fault Refusal :=
  extract i (fun bs s' => .commit [] (gotoClass StateCode.entVal c { s' with id := field 16 bs })) s

/-- ENT_ID.1 (R168). -/
def execEntId1 (s : State) : Host.Outcome State Fault Refusal := entryId .entId1 0#3 s

/-- ENT_ID.2 (R169). -/
def execEntId2 (s : State) : Host.Outcome State Fault Refusal := entryId .entId2 1#3 s

/-- ENT_ID.4 (R170). -/
def execEntId4 (s : State) : Host.Outcome State Fault Refusal := entryId .entId4 2#3 s

/-- ENT_ID.8 (R171). -/
def execEntId8 (s : State) : Host.Outcome State Fault Refusal := entryId .entId8 3#3 s

/-- ENT_ID.X (R172): goto VAR_LEN, CLS stays. -/
def execEntIdX (s : State) : Host.Outcome State Fault Refusal :=
  extract .entIdX (fun bs s' => .commit [] (goto StateCode.varLen { s' with id := field 16 bs })) s

/-- The shared form of ENT_VAL.c (R173): the value, of 8·2^c bits, zero-extended in the entry's token. -/
def entryValue (i : Instr) (c : BitVec 3) (pack : List Byte → DWord) (s : State) :
    Host.Outcome State Fault Refusal :=
  extract i (fun bs s' => .commit [fieldToken i s.recDone s.id (pack bs)] (endEntry c s')) s

/-- ENT_VAL.1 (R173). -/
def execEntVal1 (s : State) : Host.Outcome State Fault Refusal :=
  entryValue .entVal1 0#3 (fun bs => zext64 (field 8 bs)) s

/-- ENT_VAL.2 (R174). -/
def execEntVal2 (s : State) : Host.Outcome State Fault Refusal :=
  entryValue .entVal2 1#3 (fun bs => zext64 (field 16 bs)) s

/-- ENT_VAL.4 (R175). -/
def execEntVal4 (s : State) : Host.Outcome State Fault Refusal :=
  entryValue .entVal4 2#3 (fun bs => zext64 (field 32 bs)) s

/-- ENT_VAL.8 (R176). -/
def execEntVal8 (s : State) : Host.Outcome State Fault Refusal :=
  entryValue .entVal8 3#3 (fun bs => field 64 bs) s

/-- VAR_LEN (R177): N is not checked against the bytes left. -/
def execVarLen (s : State) : Host.Outcome State Fault Refusal :=
  extract .varLen (fun bs s' => .commit [] (goto StateCode.varData { s' with n := field 16 bs })) s

/-- VAR_DATA (R178): N opaque bytes, delivered as a reference whose start is POS before the read. -/
def execVarData (s : State) : Host.Outcome State Fault Refusal :=
  extract .varData (fun _ s' =>
    .commit [fieldToken .varData s.recDone s.id (refValue s.pos (s.n.setWidth 32))] (endEntry 4#3 s')) s

end Sys2Proof.Machine
end

