-- ==== Sys2Proof/Machine/Record.lean ====
section
/-!
DEFINITION. The record family (41_record.md): REC_TS to REC_SPD. Each step reads one field and emits it with
REC = REC_DONE; no value is checked against a range.
-/
namespace Sys2Proof.Machine

/-- The shared form of the record steps: read, emit the packed value, go on to `next` (R140). -/
def recordField (i : Instr) (pack : List Byte → DWord) (next : BitVec 5) (s : State) :
    Host.Outcome State Fault Refusal :=
  extract i (fun bs s' => .commit [fieldToken i s.recDone 0#16 (pack bs)] (goto next s')) s

/-- REC_TS (R141): u64. -/
def execRecTs (s : State) : Host.Outcome State Fault Refusal :=
  recordField .recTs (fun bs => field 64 bs) StateCode.recPrio s

/-- REC_PRIO (R142): u8. -/
def execRecPrio (s : State) : Host.Outcome State Fault Refusal :=
  recordField .recPrio (fun bs => zext64 (field 8 bs)) StateCode.recLon s

/-- REC_LON (R143): u32 through COORD_SM. -/
def execRecLon (s : State) : Host.Outcome State Fault Refusal :=
  recordField .recLon (fun bs => coordValue (field 32 bs)) StateCode.recLat s

/-- REC_LAT (R145): u32 through COORD_SM. -/
def execRecLat (s : State) : Host.Outcome State Fault Refusal :=
  recordField .recLat (fun bs => coordValue (field 32 bs)) StateCode.recAlt s

/-- REC_ALT (R146): u16. -/
def execRecAlt (s : State) : Host.Outcome State Fault Refusal :=
  recordField .recAlt (fun bs => zext64 (field 16 bs)) StateCode.recAng s

/-- REC_ANG (R147): u16. -/
def execRecAng (s : State) : Host.Outcome State Fault Refusal :=
  recordField .recAng (fun bs => zext64 (field 16 bs)) StateCode.recSat s

/-- REC_SAT (R148): u8. -/
def execRecSat (s : State) : Host.Outcome State Fault Refusal :=
  recordField .recSat (fun bs => zext64 (field 8 bs)) StateCode.recSpd s

/-- REC_SPD (R149): u16; the IO element follows. -/
def execRecSpd (s : State) : Host.Outcome State Fault Refusal :=
  recordField .recSpd (fun bs => zext64 (field 16 bs)) StateCode.ioEvid s

end Sys2Proof.Machine
end

