-- ==== Sys2Proof/Machine/Dispatch.lean ====
section
/-!
DEFINITION. exec: one arm per instruction, each one direct call of its meaning.
-/
namespace Sys2Proof.Machine

def exec (i : Instr) (s : State) : Host.Outcome State Fault Refusal :=
  match i with
  | .idle => Sys2Proof.Machine.execIdle s
  | .lenChk => Sys2Proof.Machine.execLenChk s
  | .hdrPre => Sys2Proof.Machine.execHdrPre s
  | .hdrImei => Sys2Proof.Machine.execHdrImei s
  | .hdrZero => Sys2Proof.Machine.execHdrZero s
  | .hdrFlen => Sys2Proof.Machine.execHdrFlen s
  | .hdrCodec => Sys2Proof.Machine.execHdrCodec s
  | .hdrNrec => Sys2Proof.Machine.execHdrNrec s
  | .recTs => Sys2Proof.Machine.execRecTs s
  | .recPrio => Sys2Proof.Machine.execRecPrio s
  | .recLon => Sys2Proof.Machine.execRecLon s
  | .recLat => Sys2Proof.Machine.execRecLat s
  | .recAlt => Sys2Proof.Machine.execRecAlt s
  | .recAng => Sys2Proof.Machine.execRecAng s
  | .recSat => Sys2Proof.Machine.execRecSat s
  | .recSpd => Sys2Proof.Machine.execRecSpd s
  | .ioEvid => Sys2Proof.Machine.execIoEvid s
  | .ioTotal => Sys2Proof.Machine.execIoTotal s
  | .grpCnt1 => Sys2Proof.Machine.execGrpCnt1 s
  | .grpCnt2 => Sys2Proof.Machine.execGrpCnt2 s
  | .grpCnt4 => Sys2Proof.Machine.execGrpCnt4 s
  | .grpCnt8 => Sys2Proof.Machine.execGrpCnt8 s
  | .grpCntX => Sys2Proof.Machine.execGrpCntX s
  | .entId1 => Sys2Proof.Machine.execEntId1 s
  | .entId2 => Sys2Proof.Machine.execEntId2 s
  | .entId4 => Sys2Proof.Machine.execEntId4 s
  | .entId8 => Sys2Proof.Machine.execEntId8 s
  | .entIdX => Sys2Proof.Machine.execEntIdX s
  | .entVal1 => Sys2Proof.Machine.execEntVal1 s
  | .entVal2 => Sys2Proof.Machine.execEntVal2 s
  | .entVal4 => Sys2Proof.Machine.execEntVal4 s
  | .entVal8 => Sys2Proof.Machine.execEntVal8 s
  | .varLen => Sys2Proof.Machine.execVarLen s
  | .varData => Sys2Proof.Machine.execVarData s
  | .ftrNrec2 => Sys2Proof.Machine.execFtrNrec2 s
  | .ftrCrc => Sys2Proof.Machine.execFtrCrc s
  | .done => Sys2Proof.Machine.execDone s
  | .error => Sys2Proof.Machine.execError s
  | .start v => Sys2Proof.Machine.execStart v s
  | .clear v => Sys2Proof.Machine.execClear v s

end Sys2Proof.Machine
end

