-- ==== Sys2Proof/Machine/HostOps.lean ====
section
/-!
DEFINITION. What the host and the token consumer do besides commands (44_host_commands.md): the CSR values (R45 to
R57), the accesses the model refuses, BUF writes (R209), the pop (R208) with the consumer's duty of R213, and reset
(R250 to R252).
-/
namespace Sys2Proof.Machine

/-- A CSR access is one aligned 32-bit word (R77). -/
def csrAligned (off : Word) (lanes : BitVec 4) : Bool := off.extractLsb' 0 2 == 0#2 && lanes == allLanes

/-- CTRL reads IRQ_EN in bit 2; the command bits read 0 (R46). -/
def csrCtrl (s : State) : Word := 0#29 ++ BitVec.ofBool s.irqEn ++ 0#2

/-- STATUS (R47). -/
def csrStatus (s : State) : Word :=
  0#17 ++ BitVec.ofBool (outqFull s) ++ BitVec.ofBool (outqEmpty s) ++ BitVec.ofBool (irqPend s) ++
    BitVec.ofBool s.cmm ++ BitVec.ofBool (errorFlag s) ++ BitVec.ofBool (doneFlag s) ++ BitVec.ofBool (busy s) ++ uop s

/-- ERRINFO (R50). -/
def csrErrinfo (s : State) : Word := 0#16 ++ s.errUop ++ 0#5 ++ s.err

/-- HDRINFO (R53). -/
def csrHdrinfo (s : State) : Word := s.recDone ++ s.nrec2 ++ s.nrec ++ s.codec

/-- Four identity bytes, the first in bits 31:24; byte 15 does not exist and reads 0 (R55). -/
def csrImei (j : Nat) (s : State) : Word :=
  s.imei.toList.getD (4 * j) 0 ++ s.imei.toList.getD (4 * j + 1) 0 ++
    s.imei.toList.getD (4 * j + 2) 0 ++ s.imei.toList.getD (4 * j + 3) 0

/-- PARAM, a constant (R56). -/
def csrParam : Word :=
  Config.revision ++ BitVec.ofNat 8 (min Config.outDepth 255) ++ BitVec.ofNat 8 Config.minLen

/-- The value a CSR read returns (R45 to R57): 0 at an offset that is not mapped. -/
def csrValue (off : Word) (s : State) : Word :=
  if off = Csr.ctrl then csrCtrl s
  else if off = Csr.status then csrStatus s
  else if off = Csr.len then s.len
  else if off = Csr.pos then s.pos
  else if off = Csr.errinfo then csrErrinfo s
  else if off = Csr.errPos then s.errPos
  else if off = Csr.flen then s.flen
  else if off = Csr.hdrinfo then csrHdrinfo s
  else if off = Csr.crc then s.crc
  else if off = Csr.imei0 then csrImei 0 s
  else if off = Csr.imei1 then csrImei 1 s
  else if off = Csr.imei2 then csrImei 2 s
  else if off = Csr.imei3 then csrImei 3 s
  else if off = Csr.param then csrParam
  else 0#32

/-- A CSR read: the value goes to the host and nothing else changes (R207). -/
def readCsr (off : Word) (lanes : BitVec 4) (s : State) : Host.Outcome State Fault Refusal :=
  if csrAligned off lanes then .next { s with rdata := csrValue off s } else .refused .csrNotAlignedWord

/-- A write to LEN (R205): ignored while BUSY. -/
def writeLen (v : Word) (s : State) : State := if busy s then s else { s with len := v }

/-- A BUF write (R209): refused while BUSY (R255); an offset at or above MAX_LEN does not exist (log 13). After DONE or
ERROR it is accepted whether or not the references of earlier tokens to those bytes were read, which is the model's
choice (log 23). -/
def writeBuf (off : Nat) (bytes : List Byte) (s : State) : Host.Outcome State Fault Refusal :=
  if busy s then .refused .bufWriteWhileBusy
  else if off + bytes.length ≤ Config.maxLen then
    .next { s with buf := writeBytes s.buf off bytes, written := markOffsets s.written off bytes.length }
  else .fault (.bufOutOfRange off)

/-- The consumer takes a token: END_OK closes a token frame, END_ERR makes it discard the one it was receiving (R98,
R213). -/
def consume (t : Token) (s : State) : State :=
  if t.tag = tagEndOk then { s with frames := s.frames ++ [s.partialFrame ++ [t]], partialFrame := [] }
  else if t.tag = tagEndErr then { s with partialFrame := [] }
  else { s with partialFrame := s.partialFrame ++ [t] }

/-- Reset (R250, R251): every register of R44 at its reset value and OUTQ empty; BUF keeps its bytes (R252), of which
none counts as written since reset (R253; log 3); the consumer drops an unfinished token frame (R251; log 20). -/
def resetBlock (s : State) : State :=
  { State.reset with buf := s.buf, agenda := s.agenda, rdata := s.rdata, frames := s.frames }

end Sys2Proof.Machine
end

