-- ==== Sys2Proof/Machine/Turn.lean ====
section
/-!
DEFINITION. One step of the whole: the next move of the agenda (R200; log 4), the engine's turn (R9, R21), a CTRL
write's command (R204), and how a table word is placed where the next step runs it.
-/
namespace Sys2Proof.Machine

/-- The engine's turn: the one UOP that {STATE, CLS} selects; a reserved value is a fault (R9, R93, R104). -/
def engineTurn (s : State) : Host.Outcome State Fault Refusal :=
  match decodeUop (uop s) with
  | .ok i => exec i s
  | .error _ => .fault (.reservedUop (uop s))

/-- A CTRL write: its command if it holds one; IRQ_EN takes bit 2 either way (R204, R211). -/
def writeCtrl (v : Word) (s : State) : Host.Outcome State Fault Refusal :=
  match decodeCtrl v with
  | .ok i => exec i s
  | .error _ => .next (setIrqEn v s)

/-- A CSR write: CTRL and LEN are the writable registers; any other offset ignores it (R201, R206). -/
def writeCsr (off : Word) (lanes : BitVec 4) (v : Word) (s : State) : Host.Outcome State Fault Refusal :=
  if csrAligned off lanes then
    if off = Csr.ctrl then writeCtrl v s
    else if off = Csr.len then .next (writeLen v s)
    else .next s
  else .refused .csrNotAlignedWord

/-- A pop (R208): the head token goes to the consumer. On an empty OUTQ the consumer waits: the pop stays first in the
agenda and the engine takes its turn (log 6). -/
def popTurn (rest : List Move) (s : State) : Host.Outcome State Fault Refusal :=
  match s.outq with
  | [] => engineTurn s
  | t :: q => .next (consume t { s with agenda := rest, outq := q })

/-- One step: the first move of the agenda, or the engine's turn when there is none. In a state that holds a reserved
UOP only the engine's turn is the fault of R104; that the moves of the host and the consumer still have a next state there
is the model's choice (log 25). -/
def takeTurn (s : State) : Host.Outcome State Fault Refusal :=
  match s.agenda with
  | [] => engineTurn s
  | .engine :: rest => engineTurn { s with agenda := rest }
  | .csrWrite off lanes v :: rest => writeCsr off lanes v { s with agenda := rest }
  | .csrRead off lanes :: rest => readCsr off lanes { s with agenda := rest }
  | .bufWrite off bytes :: rest => writeBuf off bytes { s with agenda := rest }
  | .pop :: rest => popTurn rest s
  | .reset :: rest => .next (resetBlock { s with agenda := rest })

/-- A word of the opcode table placed where the next step runs it: a UOP in {STATE, CLS} with the engine next to move,
a command as the host's next CTRL write (log 4, log 8). -/
def placeWord : Encoding → State → State
  | .uop u, s => { s with state := u.extractLsb' 3 5, cls := u.extractLsb' 0 3, agenda := .engine :: s.agenda }
  | .ctrl v, s => { s with agenda := .csrWrite Csr.ctrl allLanes v :: s.agenda }

end Sys2Proof.Machine
end

