-- ==== Sys2Proof/Machine/Step.lean ====
section
/-!
DEFINITION. step, and the placing of a table word where step runs it next.
-/
namespace Sys2Proof.Machine

/-- One step of the machine: `takeTurn`. -/
def step (s : State) : Host.Outcome State Fault Refusal := takeTurn s

/-- `s` with the table word `w` placed so that the very next step runs it: see `placeWord` (log 4). -/
def State.withFetchWord (s : State) (nbits w : Nat) : State := placeWord (tableEncoding nbits w) s

end Sys2Proof.Machine
end

