-- ==== Sys2Proof/Machine/Coord.lean ====
section
/-!
DEFINITION. What a coordinate token means: the exact rational COORD(u) (R144), and its binary64 form (R151; log 15).
The block computes neither: it delivers u, s and m (R150).
-/
namespace Sys2Proof.Machine

/-- COORD(u) in units of 10^−7: ±m (R144). -/
def coordUnits (u : Word) : Int := if coordSign u then -((coordMag u).toNat : Int) else (coordMag u).toNat

/-- COORD(u), an exact rational: ±m / 10000000 (R144). -/
def coord (u : Word) : Rat := mkRat (coordUnits u) 10000000

/-- Round-to-nearest of the quotient a / d, ties to even. -/
def divRne (a d : Nat) : Nat :=
  if 2 * (a % d) < d then a / d
  else if d < 2 * (a % d) then a / d + 1
  else if (a / d) % 2 = 0 then a / d else a / d + 1

/-- The power of two that brings m / 10^7 into [2^52, 2^53): the first of 45, 46, … up to 76 that reaches 2^52. -/
def scaleOf (m : Nat) : Nat :=
  ((List.range 32).map (fun i => 45 + i)).find? (fun k => decide (10000000 * 2 ^ 52 ≤ m * 2 ^ k)) |>.getD 76

/-- The binary64 pattern of RNE(m / 10^7) for m < 2^31: sign 0 (R151). A significand that rounds up to 2^53 carries
into the exponent. -/
def binary64Mag (m : Nat) : Nat :=
  if m = 0 then 0
  else (1075 - scaleOf m) * 2 ^ 52 + (divRne (m * 2 ^ scaleOf m) 10000000 - 2 ^ 52)

/-- The binary64 coordinate of u: +RNE(m / 10^7) or −RNE(m / 10^7), −0.0 for 0xFFFFFFFF (R151). -/
def coordBinary64 (u : Word) : BitVec 64 :=
  BitVec.ofBool (coordSign u) ++ BitVec.ofNat 63 (binary64Mag (coordMag u).toNat)

end Sys2Proof.Machine
end

