-- ==== Sys2Proof/Machine/Frame.lean ====
section
/-!
DEFINITION. The decode result (R40 to R43): the Frame and its parts, its size on the wire (R86) and its token frame
TOKENS(F) (R100).
-/
namespace Sys2Proof.Machine

/-- An entry of g[c] for c ≤ 3: an io id and an unsigned value of `w` bits (R42). -/
structure FixedEntry (w : Nat) where
  ioId : BitVec 16
  value : BitVec w
deriving DecidableEq, Repr

/-- An entry of g[4]: an io id, the declared length and that many raw bytes (R42). -/
structure VarEntry where
  ioId : BitVec 16
  length : BitVec 16
  data : List Byte
deriving DecidableEq, Repr

/-- IOElement (R42): `g0` to `g4` are g[0] to g[4]. -/
structure IOElement where
  eventId : BitVec 16
  total : BitVec 16
  g0 : List (FixedEntry 8)
  g1 : List (FixedEntry 16)
  g2 : List (FixedEntry 32)
  g3 : List (FixedEntry 64)
  g4 : List VarEntry
deriving DecidableEq, Repr

/-- Position (R41): the coordinates as read; their values are COORD of them. -/
structure Position where
  lonRaw : Word
  latRaw : Word
  altitude : BitVec 16
  angle : BitVec 16
  satellites : BitVec 8
  speed : BitVec 16
deriving DecidableEq, Repr

/-- Record (R41). -/
structure AvlRecord where
  timestamp : DWord
  priority : BitVec 8
  position : Position
  io : IOElement
deriving DecidableEq, Repr

/-- Frame (R40). -/
structure Frame where
  imei : Vector Byte 15
  flen : Word
  codec : BitVec 8
  nrec : BitVec 8
  records : List AvlRecord
  nrec2 : BitVec 8
  crc : Word
deriving DecidableEq, Repr

/-- The size of a variable entry on the wire (R83). -/
def varEntrySize (e : VarEntry) : Nat := 4 + e.length.toNat

/-- The size of the variable entries of a record on the wire. -/
def varEntriesSize : List VarEntry → Nat
  | [] => 0
  | e :: es => varEntrySize e + varEntriesSize es

/-- RSIZE(r) (R86). -/
def recordSize (r : AvlRecord) : Nat :=
  28 + 10 + 3 * r.io.g0.length + 4 * r.io.g1.length + 6 * r.io.g2.length + 10 * r.io.g3.length +
    varEntriesSize r.io.g4

/-- The size of a list of records on the wire. -/
def recordsSize : List AvlRecord → Nat
  | [] => 0
  | r :: rs => recordSize r + recordsSize rs

/-- SIZE (R86). -/
def frameSize (f : Frame) : Nat := Config.hdrBytes + recordsSize f.records + Config.ftrBytes

/-- The sum of a record's five sub-group counts (R179). -/
def entryCount (io : IOElement) : Nat := io.g0.length + io.g1.length + io.g2.length + io.g3.length + io.g4.length

/-- CMM after a frame: some record's counts do not add up to its TOTAL (R179). -/
def frameCmm (f : Frame) : Bool := f.records.any (fun r => entryCount r.io != r.io.total.toNat)

/-- What every decoded Frame satisfies (R40, R42, R43): ASCII identity, as many records as NREC says, and each variable
entry as long as it declares. -/
def Frame.wf (f : Frame) : Bool :=
  allAscii f.imei.toList && f.records.length == f.nrec.toNat &&
    f.records.all (fun r => r.io.g4.all (fun e => e.data.length == e.length.toNat))

/-- The count token of a sub-group (R97). -/
def countToken (i : Instr) (recNo : BitVec 8) (n : Nat) : Token := fieldToken i recNo 0#16 (BitVec.ofNat 64 n)

/-- The tokens of a fixed-class sub-group: its count and one ENT_VAL.c per entry (R100). -/
def groupTokens {w : Nat} (cnt val : Instr) (recNo : BitVec 8) (es : List (FixedEntry w)) : List Token :=
  countToken cnt recNo es.length :: es.map (fun e => fieldToken val recNo e.ioId (zext64 e.value))

/-- One VAR_DATA token per variable entry; `p` is the offset of the first entry, and an entry's data stands 4 bytes
after its start (R83, R101). -/
def varTokens (recNo : BitVec 8) : Nat → List VarEntry → List Token
  | _, [] => []
  | p, e :: es =>
    fieldToken .varData recNo e.ioId (refValue (BitVec.ofNat 32 (p + 4)) (e.length.setWidth 32)) ::
      varTokens recNo (p + varEntrySize e) es

/-- The offset, from a record's start, of the first variable entry: past the fixed part, five counts and four groups
(R81, R82). -/
def varStart (r : AvlRecord) : Nat :=
  28 + 10 + 3 * r.io.g0.length + 4 * r.io.g1.length + 6 * r.io.g2.length + 10 * r.io.g3.length

/-- The tokens of a record that starts at offset `p` (R100, items 2 and 3). -/
def recordTokens (recNo : BitVec 8) (p : Nat) (r : AvlRecord) : List Token :=
  [ fieldToken .recTs recNo 0#16 r.timestamp,
    fieldToken .recPrio recNo 0#16 (zext64 r.priority),
    fieldToken .recLon recNo 0#16 (coordValue r.position.lonRaw),
    fieldToken .recLat recNo 0#16 (coordValue r.position.latRaw),
    fieldToken .recAlt recNo 0#16 (zext64 r.position.altitude),
    fieldToken .recAng recNo 0#16 (zext64 r.position.angle),
    fieldToken .recSat recNo 0#16 (zext64 r.position.satellites),
    fieldToken .recSpd recNo 0#16 (zext64 r.position.speed),
    fieldToken .ioEvid recNo 0#16 (zext64 r.io.eventId),
    fieldToken .ioTotal recNo 0#16 (zext64 r.io.total) ] ++
  groupTokens .grpCnt1 .entVal1 recNo r.io.g0 ++ groupTokens .grpCnt2 .entVal2 recNo r.io.g1 ++
  groupTokens .grpCnt4 .entVal4 recNo r.io.g2 ++ groupTokens .grpCnt8 .entVal8 recNo r.io.g3 ++
  (countToken .grpCntX recNo r.io.g4.length :: varTokens recNo (p + varStart r) r.io.g4)

/-- The tokens of the records from number `recNo` on, the first starting at offset `p`. -/
def recordsTokens : Nat → Nat → List AvlRecord → List Token
  | _, _, [] => []
  | recNo, p, r :: rs =>
    recordTokens (BitVec.ofNat 8 recNo) p r ++ recordsTokens (recNo + 1) (p + recordSize r) rs

/-- The header tokens (R100, item 1). -/
def headerTokens (f : Frame) : List Token :=
  [ fieldToken .hdrImei 0#8 0#16 (refValue 2#32 15#32),
    fieldToken .hdrFlen 0#8 0#16 (zext64 f.flen),
    fieldToken .hdrCodec 0#8 0#16 (zext64 f.codec),
    fieldToken .hdrNrec 0#8 0#16 (zext64 f.nrec) ]

/-- The footer tokens and END_OK (R100, item 4). -/
def footerTokens (f : Frame) : List Token :=
  [ fieldToken .ftrNrec2 f.nrec 0#16 (zext64 f.nrec2),
    fieldToken .ftrCrc f.nrec 0#16 (zext64 f.crc),
    endOkToken f.nrec (frameCmm f) (BitVec.ofNat 32 (frameSize f)) ]

/-- TOKENS(F) (R100). -/
def frameTokens (f : Frame) : List Token :=
  headerTokens f ++ recordsTokens 0 Config.hdrBytes f.records ++ footerTokens f

end Sys2Proof.Machine
end

