-- ==== Sys2Proof/Machine/Reference.lean ====
section
/-!
DEFINITION. The reference decode function DECODE of R85, a pure function of the bytes BUF[0 .. LEN-1]. The local cursor
is held as the list of the bytes not yet read; p is the frame's length less what is left.
-/
namespace Sys2Proof.Machine

/-- A piece of DECODE: it takes the bytes not yet read and gives a value and what is left, or the first error. -/
abbrev Parser (α : Type) := StateT (List Byte) (Except ErrKind) α

/-- rd(n) (R85): the next n bytes, or TruncatedFrame. -/
def rd (n : Nat) : Parser (List Byte) := fun bs =>
  if bs.length < n then .error .truncatedFrame else .ok (bs.take n, bs.drop n)

/-- rd of an unsigned big-endian field of `w` bits. -/
def rdField (w : Nat) : Parser (BitVec w) := do return field w (← rd (w / 8))

/-- "repeat n times: …; append": the values in order. -/
def repeatRead {α : Type} (p : Parser α) : Nat → Parser (List α)
  | 0 => pure []
  | n + 1 => do
    let a ← p
    let as ← repeatRead p n
    return a :: as

/-- An entry of a fixed class (R83). -/
def rdFixedEntry (w : Nat) : Parser (FixedEntry w) := do
  let id ← rdField 16
  let v ← rdField w
  return { ioId := id, value := v }

/-- An entry of the variable class (R83). -/
def rdVarEntry : Parser VarEntry := do
  let id ← rdField 16
  let n ← rdField 16
  let d ← rd n.toNat
  return { ioId := id, length := n, data := d }

/-- A sub-group: its 2-byte count and as many entries (R82). -/
def rdGroup {α : Type} (entry : Parser α) : Parser (List α) := do
  let k ← rdField 16
  repeatRead entry k.toNat

/-- The IO element (R81, R82). -/
def rdIOElement : Parser IOElement := do
  let evid ← rdField 16
  let total ← rdField 16
  let g0 ← rdGroup (rdFixedEntry 8)
  let g1 ← rdGroup (rdFixedEntry 16)
  let g2 ← rdGroup (rdFixedEntry 32)
  let g3 ← rdGroup (rdFixedEntry 64)
  let g4 ← rdGroup rdVarEntry
  return { eventId := evid, total := total, g0 := g0, g1 := g1, g2 := g2, g3 := g3, g4 := g4 }

/-- A record (R81). -/
def rdRecord : Parser AvlRecord := do
  let ts ← rdField 64
  let prio ← rdField 8
  let lon ← rdField 32
  let lat ← rdField 32
  let alt ← rdField 16
  let ang ← rdField 16
  let sat ← rdField 8
  let spd ← rdField 16
  let io ← rdIOElement
  return { timestamp := ts, priority := prio,
           position := { lonRaw := lon, latRaw := lat, altitude := alt, angle := ang, satellites := sat, speed := spd },
           io := io }

/-- The identity: fifteen ASCII bytes, else InvalidEncoding. -/
def rdImei : Parser (Vector Byte 15) := do
  let b ← rd 15
  if allAscii b then return imeiOf b else throw .invalidEncoding

/-- DECODE once the length is known to be at least MIN_LEN (R85). -/
def rdFrame : Parser Frame := do
  let _ ← rd 2
  let imei ← rdImei
  let _ ← rd 4
  let flen ← rdField 32
  let codec ← rdField 8
  let nrec ← rdField 8
  let records ← repeatRead rdRecord nrec.toNat
  let nrec2 ← rdField 8
  let crc ← rdField 32
  return { imei := imei, flen := flen, codec := codec, nrec := nrec, records := records, nrec2 := nrec2, crc := crc }

/-- DECODE(B, L) (R85), B being the L bytes: the Frame and the final cursor, or the first error. -/
def decodeFrame (bs : List Byte) : Except ErrKind (Frame × Nat) :=
  if bs.length < Config.minLen then .error .invalidLength
  else match rdFrame bs with
    | .ok (f, r) => .ok (f, bs.length - r.length)
    | .error e => .error e

end Sys2Proof.Machine
end

