-- ==== Sys2Proof/Machine/HostSide.lean ====
section
/-!
DEFINITION. The host's side of the contract: the boot sequence (R253), reading the result (R212), rebuilding a Frame
from a token frame and BUF (R100, R101, R257), and the envelope of R214.
-/
namespace Sys2Proof.Machine

/-- The boot sequence of R253 for the frame `bs` with the CTRL word `v`: BUF, LEN, CTRL. -/
def bootMoves (bs : List Byte) (v : Word) : List Move :=
  [ .bufWrite 0 bs,
    .csrWrite Csr.len allLanes (BitVec.ofNat 32 bs.length),
    .csrWrite Csr.ctrl allLanes v ]

/-- The bytes a token's reference denotes in a BUF (R101, R257): BUF as the caller gives it. In a BUF rewritten since the
decode they are the new bytes, which is the model's choice (log 23). -/
def deref (m : Memory) (value : DWord) : Option (List Byte) :=
  readBytes m (value.extractLsb' 32 32).toNat (value.extractLsb' 0 32).toNat

/-- A record with nothing read but its timestamp. -/
def newRecord (ts : DWord) : AvlRecord where
  timestamp := ts
  priority := 0#8
  position := { lonRaw := 0#32, latRaw := 0#32, altitude := 0#16, angle := 0#16, satellites := 0#8, speed := 0#16 }
  io := { eventId := 0#16, total := 0#16, g0 := [], g1 := [], g2 := [], g3 := [], g4 := [] }

/-- A Frame with nothing read. -/
def emptyFrame : Frame where
  imei := Vector.replicate 15 0#8
  flen := 0#32
  codec := 0#8
  nrec := 0#8
  records := []
  nrec2 := 0#8
  crc := 0#32

/-- The last record of a list, changed. -/
def modifyLast (g : AvlRecord → AvlRecord) : List AvlRecord → List AvlRecord
  | [] => []
  | [r] => [g r]
  | r :: r' :: rs => r :: modifyLast g (r' :: rs)

/-- The last record's position, changed. -/
def modifyPosition (g : Position → Position) (f : Frame) : Frame :=
  { f with records := modifyLast (fun r => { r with position := g r.position }) f.records }

/-- The last record's IO element, changed. -/
def modifyIO (g : IOElement → IOElement) (f : Frame) : Frame :=
  { f with records := modifyLast (fun r => { r with io := g r.io }) f.records }

/-- One token taken into the Frame being rebuilt (R100): records are split at REC_TS, entries go to their group in
order, and the byte strings come from BUF through the references. -/
def rebuildStep (m : Memory) (f : Frame) (t : Token) : Option Frame :=
  if t.tag = uopCode .hdrImei then (deref m t.value).map (fun bs => { f with imei := imeiOf bs })
  else if t.tag = uopCode .hdrFlen then some { f with flen := t.value.setWidth 32 }
  else if t.tag = uopCode .hdrCodec then some { f with codec := t.value.setWidth 8 }
  else if t.tag = uopCode .hdrNrec then some { f with nrec := t.value.setWidth 8 }
  else if t.tag = uopCode .recTs then some { f with records := f.records ++ [newRecord t.value] }
  else if t.tag = uopCode .recPrio then
    some { f with records := modifyLast (fun r => { r with priority := t.value.setWidth 8 }) f.records }
  else if t.tag = uopCode .recLon then some (modifyPosition (fun p => { p with lonRaw := t.value.setWidth 32 }) f)
  else if t.tag = uopCode .recLat then some (modifyPosition (fun p => { p with latRaw := t.value.setWidth 32 }) f)
  else if t.tag = uopCode .recAlt then some (modifyPosition (fun p => { p with altitude := t.value.setWidth 16 }) f)
  else if t.tag = uopCode .recAng then some (modifyPosition (fun p => { p with angle := t.value.setWidth 16 }) f)
  else if t.tag = uopCode .recSat then some (modifyPosition (fun p => { p with satellites := t.value.setWidth 8 }) f)
  else if t.tag = uopCode .recSpd then some (modifyPosition (fun p => { p with speed := t.value.setWidth 16 }) f)
  else if t.tag = uopCode .ioEvid then some (modifyIO (fun o => { o with eventId := t.value.setWidth 16 }) f)
  else if t.tag = uopCode .ioTotal then some (modifyIO (fun o => { o with total := t.value.setWidth 16 }) f)
  else if t.tag = uopCode .entVal1 then
    some (modifyIO (fun o => { o with g0 := o.g0 ++ [{ ioId := t.ioId, value := t.value.setWidth 8 }] }) f)
  else if t.tag = uopCode .entVal2 then
    some (modifyIO (fun o => { o with g1 := o.g1 ++ [{ ioId := t.ioId, value := t.value.setWidth 16 }] }) f)
  else if t.tag = uopCode .entVal4 then
    some (modifyIO (fun o => { o with g2 := o.g2 ++ [{ ioId := t.ioId, value := t.value.setWidth 32 }] }) f)
  else if t.tag = uopCode .entVal8 then
    some (modifyIO (fun o => { o with g3 := o.g3 ++ [{ ioId := t.ioId, value := t.value }] }) f)
  else if t.tag = uopCode .varData then
    (deref m t.value).map (fun bs =>
      modifyIO (fun o => { o with g4 := o.g4 ++ [{ ioId := t.ioId, length := t.value.setWidth 16, data := bs }] }) f)
  else if t.tag = uopCode .ftrNrec2 then some { f with nrec2 := t.value.setWidth 8 }
  else if t.tag = uopCode .ftrCrc then some { f with crc := t.value.setWidth 32 }
  else some f

/-- The tokens taken one after the other. -/
def rebuildFrom (m : Memory) : Frame → List Token → Option Frame
  | f, [] => some f
  | f, t :: ts =>
    match rebuildStep m f t with
    | some f' => rebuildFrom m f' ts
    | none => none

/-- The Frame of a token frame that END_OK closed, with BUF as it was during the decode (R100, R257). -/
def rebuild (m : Memory) (ts : List Token) : Option Frame := rebuildFrom m emptyFrame ts

/-! ### Reading the result (R212) -/

/-- The consumer with every queued token taken: at DONE the END token of this decode is in OUTQ or already popped, and
it is the last one emitted (R73). -/
def drained (s : State) : State := s.outq.foldl (fun c t => consume t c) { s with outq := [] }

/-- The token frame of the decode that ended in DONE, whether popped or still in OUTQ; none while DONE = 0 (R212). An
earlier decode's token frame is never the answer: this decode's END_OK closes the last one. -/
def resultTokens (s : State) : Option (List Token) := if doneFlag s then (drained s).frames.getLast? else none

/-- The CSRs that R212 counts as part of the result. -/
structure ResultCsrs where
  hdrinfo : Word
  flen : Word
  crc : Word
  imei0 : Word
  imei1 : Word
  imei2 : Word
  imei3 : Word
deriving DecidableEq, Repr

/-- The result CSRs, each as a CSR read gives it; none while DONE = 0, when no CSR value is part of a Frame (R212). -/
def resultCsrs (s : State) : Option ResultCsrs :=
  if doneFlag s then
    some { hdrinfo := csrValue Csr.hdrinfo s, flen := csrValue Csr.flen s, crc := csrValue Csr.crc s,
           imei0 := csrValue Csr.imei0 s, imei1 := csrValue Csr.imei1 s, imei2 := csrValue Csr.imei2 s,
           imei3 := csrValue Csr.imei3 s }
  else none

/-- The Frame the host rebuilds at DONE from this decode's token frame, `m` being BUF as it was during the decode (R212,
R257); none while DONE = 0. -/
def resultFrame (m : Memory) (s : State) : Option Frame :=
  match resultTokens s with
  | some ts => rebuild m ts
  | none => none

/-! ### The envelope (R214) -/

/-- The value of a hex digit, of either case (the digit case is not fixed, R214). -/
def hexDigit (c : Char) : Option Nat :=
  if '0' ≤ c ∧ c ≤ '9' then some (c.toNat - 48)
  else if 'A' ≤ c ∧ c ≤ 'F' then some (c.toNat - 55)
  else if 'a' ≤ c ∧ c ≤ 'f' then some (c.toNat - 87)
  else none

/-- The bytes of an even-length hex string. -/
def hexBytes : List Char → Option (List Byte)
  | [] => some []
  | [_] => none
  | a :: b :: cs =>
    match hexDigit a, hexDigit b, hexBytes cs with
    | some x, some y, some bs => some (BitVec.ofNat 8 (16 * x + y) :: bs)
    | _, _, _ => none

/-- Which `data` strings the surrounding converter decodes: the literal text 000F first, and at least 418 characters
(R214). -/
def envelopeAccepts (data : List Char) : Bool := data.take 4 == ['0', '0', '0', 'F'] && decide (418 ≤ data.length)

/-- The frame a host following the envelope contract loads, or none for a document it skips (R214; log 22). -/
def envelopeFrame (data : List Char) : Option (List Byte) := if envelopeAccepts data then hexBytes data else none

end Sys2Proof.Machine
end

