-- ==== Sys2Proof/Machine/Notations.lean ====
section
/-!
DEFINITION. The written forms of R106 to R108: token text, host program lines and the pseudo-operations. They have no
encoding of their own.
-/
namespace Sys2Proof.Machine

/-- The upper-case hex digit of a number below 16. -/
def hexChar (n : Nat) : Char := if n < 10 then Char.ofNat (48 + n) else Char.ofNat (55 + n)

/-- `d` hex digits of a number, the most significant first. -/
def hexText : Nat → Nat → List Char
  | 0, _ => []
  | d + 1, n => hexText d (n / 16) ++ [hexChar (n % 16)]

/-- A token as TAG/REC/ID/VALUE, 2/2/4/16 digits wide (R106). -/
def tokenText (t : Token) : List Char :=
  hexText 2 t.tag.toNat ++ '/' :: hexText 2 t.recNo.toNat ++ '/' :: hexText 4 t.ioId.toNat ++
    '/' :: hexText 16 t.value.toNat

/-- A line of a host program (R107). `wait` polls STATUS. -/
inductive HostLine where
  | wr (csr v : Word)
  | rd (csr : Word)
  | buf (off : Nat) (bytes : List Byte)
  | pop
  | wait
deriving DecidableEq, Repr

/-- The moves of a host program line; `polls` is how often a `wait` reads STATUS, the engine moving in between. -/
def hostLineMoves (polls : Nat) : HostLine → List Move
  | .wr csr v => [.csrWrite csr allLanes v]
  | .rd csr => [.csrRead csr allLanes]
  | .buf off bytes => [.bufWrite off bytes]
  | .pop => [.pop]
  | .wait => (List.replicate polls [Move.engine, Move.csrRead Csr.status allLanes]).flatten

/-- HEADER (R108). -/
def pseudoHeader : List Instr := [.lenChk, .hdrPre, .hdrImei, .hdrZero, .hdrFlen, .hdrCodec, .hdrNrec]

/-- FOOTER (R108). -/
def pseudoFooter : List Instr := [.ftrNrec2, .ftrCrc]

/-- VENTRY (R108). -/
def pseudoVentry : List Instr := [.entIdX, .varLen, .varData]

/-- GROUP.c for a fixed class with k entries (R108). -/
def pseudoGroup (cnt ent val : Instr) (k : Nat) : List Instr := cnt :: (List.replicate k [ent, val]).flatten

/-- IOELEM for the five sub-group counts (R108). -/
def pseudoIoelem (k0 k1 k2 k3 k4 : Nat) : List Instr :=
  [.ioEvid, .ioTotal] ++ pseudoGroup .grpCnt1 .entId1 .entVal1 k0 ++ pseudoGroup .grpCnt2 .entId2 .entVal2 k1 ++
    pseudoGroup .grpCnt4 .entId4 .entVal4 k2 ++ pseudoGroup .grpCnt8 .entId8 .entVal8 k3 ++
    (.grpCntX :: (List.replicate k4 pseudoVentry).flatten)

/-- RECORD (R108). -/
def pseudoRecord (r : AvlRecord) : List Instr :=
  [.recTs, .recPrio, .recLon, .recLat, .recAlt, .recAng, .recSat, .recSpd] ++
    pseudoIoelem r.io.g0.length r.io.g1.length r.io.g2.length r.io.g3.length r.io.g4.length

/-- The micro-operations of a complete successful decode: HEADER, NREC × RECORD, FOOTER (R108). -/
def pseudoDecode (f : Frame) : List Instr := pseudoHeader ++ (f.records.map pseudoRecord).flatten ++ pseudoFooter

end Sys2Proof.Machine
end

