-- ==== Sys2Proof/Machine/Platform.lean ====
section
/-!
DEFINITION. A platform of several AVL-FP blocks (R241): each has its own state, and a step of one leaves the others as
they are. Which one moves is the platform's choice (R241: results may complete in any order).
All blocks have the same MAX_LEN and OUT_DEPTH, which is the model's choice (log 24).
-/
namespace Sys2Proof.Machine

/-- Block `j` of a platform takes one step; none where it has no such block or the step stops. Every block has
the capacities of Config (log 24). -/
def platformStep (j : Nat) (blocks : List State) : Option (List State) :=
  match blocks[j]? with
  | none => none
  | some s =>
    match takeTurn s with
    | .next s' => some (blocks.set j s')
    | .fault _ => none
    | .refused _ => none

end Sys2Proof.Machine
end

