-- ==== Sys2Proof/Safety.lean ====
section
/-!
DEFINITION. The terms the claims use: when a step is ready to complete, the invariant of reachable states (R35 and the
statements of the other files that hold of every state), and the register groups of the frame statements.
-/
namespace Sys2Proof.Machine

/-- STATE is one of the header steps LEN_CHK to HDR_NREC. -/
def inHeader (s : State) : Bool := decide (0x01 ≤ s.state.toNat) && decide (s.state.toNat ≤ 0x07)

/-- STATE is a step of a record's body, REC_TS to VAR_DATA (R140). -/
def inRecord (s : State) : Bool := decide (0x08 ≤ s.state.toNat) && decide (s.state.toNat ≤ 0x16)

/-- STATE is ENT_ID, ENT_VAL, VAR_LEN or VAR_DATA (R35). -/
def inEntry (s : State) : Bool := decide (0x13 ≤ s.state.toNat) && decide (s.state.toNat ≤ 0x16)

/-- STATE is FTR_NREC2 or FTR_CRC. -/
def inFooter (s : State) : Bool := s.state == StateCode.ftrNrec2 || s.state == StateCode.ftrCrc

/-- Where a header step stands: the layout fixes POS (40_header.md, R80). -/
def headerOffset (c : BitVec 5) : Nat :=
  if c = StateCode.hdrImei then 2
  else if c = StateCode.hdrZero then 17
  else if c = StateCode.hdrFlen then 21
  else if c = StateCode.hdrCodec then 25
  else if c = StateCode.hdrNrec then 26
  else 0

/-- The invariant of every reachable state: R35 first, then what makes it inductive and what other rules state of every
state. -/
structure Invariant (s : State) : Prop where
  /-- BUF is in its canonical form -/
  bufWf : Memory.wf s.buf
  /-- every offset recorded as written holds a byte (R252, R253) -/
  writtenHeld : ∀ a ∈ s.written, (readByte s.buf a).isSome = true
  /-- OUTQ never exceeds OUT_DEPTH (R33) -/
  queueBound : s.outq.length ≤ Config.outDepth
  /-- R35: POS ≤ LEN while BUSY -/
  posLe : busy s = true → s.pos.toNat ≤ s.len.toNat
  /-- R35: CLS ≤ 4 -/
  clsLe : s.cls.toNat ≤ 4
  /-- R35: REC_DONE ≤ NREC -/
  recDoneLe : s.recDone.toNat ≤ s.nrec.toNat
  /-- R35: IDX < K in the entry states -/
  idxLt : inEntry s = true → s.idx.toNat < s.k.toNat
  /-- R35: SUMK ≤ 5 × 65535 -/
  sumkLe : s.sumk.toNat ≤ 5 * 65535
  /-- R35, R104: the UOP is never reserved -/
  uopLive : ∃ i, decodeUop (uop s) = .ok i
  /-- R253: a decode runs only over bytes the host has written, within MAX_LEN -/
  loaded : busy s = true → s.len.toNat ≤ Config.maxLen ∧ ∀ a, a < s.len.toNat → a ∈ s.written
  /-- R140: within a record's body another record is still to be completed -/
  recOpen : inRecord s = true → s.recDone.toNat < s.nrec.toNat
  /-- R190: REC_DONE = NREC in the footer -/
  recAll : inFooter s = true → s.recDone = s.nrec
  /-- R128: REC_DONE is 0 in the header -/
  headerRec : inHeader s = true → s.recDone = 0#8
  /-- R80: the header steps stand at fixed offsets -/
  headerPos : inHeader s = true → s.pos.toNat = headerOffset s.state
  /-- R121: past LEN_CHK a decode has LEN ≥ 20 -/
  lenChecked : busy s = true → s.state ≠ StateCode.lenChk → 20 ≤ s.len.toNat
  /-- R27: before GRP_CNT.c SUMK holds the counts of the classes below c -/
  sumkGroups : s.state = StateCode.grpCnt → s.sumk.toNat ≤ s.cls.toNat * 65535
  /-- R27: within class c SUMK holds the counts of the classes up to c -/
  sumkEntries : inEntry s = true → s.sumk.toNat ≤ (s.cls.toNat + 1) * 65535
  /-- R30, R256: the error registers are 0 outside ERROR -/
  errClear : errorFlag s = false → s.err = 0#3 ∧ s.errUop = 0#8 ∧ s.errPos = 0#32
  /-- R220: in ERROR the code is one of the three -/
  errSet : errorFlag s = true → s.err = 1#3 ∨ s.err = 2#3 ∨ s.err = 3#3
  /-- R40: each IMEI byte is below 0x80 -/
  imeiAscii : allAscii s.imei.toList = true
  /-- CLS is 0 in IDLE (R44, R203; log 8) -/
  idleCls : s.state = StateCode.idle → s.cls = 0#3

/-- A reading step can complete: its bytes lie within LEN, OUTQ has room for its tokens, and BUF holds the bytes `bs`
(R63, R96, R62). -/
structure Ready (i : Instr) (s : State) (bs : List Byte) : Prop where
  inBounds : s.pos.toNat + readWidth i s ≤ s.len.toNat
  room : hasRoom (successTokens i) s = true
  bytes : readBytes s.buf s.pos.toNat (readWidth i s) = some bs

/-- The steps that call read(n) (R93): all but LEN_CHK and the resting states. -/
def readingRows : List Instr :=
  [.hdrPre, .hdrImei, .hdrZero, .hdrFlen, .hdrCodec, .hdrNrec] ++
  [.recTs, .recPrio, .recLon, .recLat, .recAlt, .recAng, .recSat, .recSpd] ++
  [.ioEvid, .ioTotal, .grpCnt1, .grpCnt2, .grpCnt4, .grpCnt8, .grpCntX] ++
  [.entId1, .entId2, .entId4, .entId8, .entIdX, .entVal1, .entVal2, .entVal4, .entVal8] ++
  [.varLen, .varData, .ftrNrec2, .ftrCrc]

/-- The header result registers (R24). -/
def headerRegs (s : State) : Vector Byte 15 × Word × BitVec 8 × BitVec 8 := (s.imei, s.flen, s.codec, s.nrec)

/-- The footer result registers (R25). -/
def footerRegs (s : State) : BitVec 8 × Word := (s.nrec2, s.crc)

/-- The IO element's, sub-group's and entry's working registers (R27 to R29). -/
def ioRegs (s : State) : BitVec 16 × BitVec 19 × BitVec 16 × BitVec 16 × BitVec 16 × BitVec 16 :=
  (s.total, s.sumk, s.k, s.idx, s.id, s.n)

/-- The error registers (R30). -/
def errRegs (s : State) : BitVec 3 × BitVec 8 × Word := (s.err, s.errUop, s.errPos)

/-- What only the host or the consumer changes: LEN, IRQ_EN, BUF with its record, and the agents' own data. -/
def hostSide (s : State) : Word × Bool × Memory × List Nat × List Move × Word × List Token × List (List Token) :=
  (s.len, s.irqEn, s.buf, s.written, s.agenda, s.rdata, s.partialFrame, s.frames)

end Sys2Proof.Machine
end

