-- ==== Sys2Proof/Certificates/Slice0/Obligations.lean ====
section
/-!
DEFINITION. The statements for the provers, from the numbered rules of spec/. A byte list in a hypothesis is the bytes
the step reads, in wire order; a big-endian field is written as their concatenation (R64).
-/
open Sys2Proof Sys2Proof.Machine

/-! ## Encoding -/

/-- R93: words of the opcode map, CLS bits that are don't-cares among them, and CTRL words, read as their rows. -/
def Obligations.DecodeReadsTheTableWords : Prop :=
  decodeUop 0x18#8 = .ok .hdrImei ∧ decodeUop 0x57#8 = .ok .recLon ∧ decodeUop 0x93#8 = .ok .grpCnt8 ∧
  decodeUop 0x9C#8 = .ok .entIdX ∧ decodeUop 0xA2#8 = .ok .entVal4 ∧ decodeUop 0xAC#8 = .ok .varLen ∧
  decodeUop 0xB4#8 = .ok .varData ∧ decodeUop 0xC4#8 = .ok .ftrCrc ∧ decodeUop 0xF4#8 = .ok .done ∧
  decodeCtrl 0x5#32 = .ok (.start 0x5#32) ∧ decodeCtrl 0x3#32 = .ok (.start 0x3#32) ∧
  decodeCtrl 0x6#32 = .ok (.clear 0x6#32)

/-- R93, R202, R203: decoding the word of a well-formed instruction gives the instruction back, for all 40 constructors
and every CTRL word. -/
def Obligations.DecodeEncodeRoundTrip : Prop :=
  ∀ i : Instr, i.wf = true → decode (encode i) = .ok i

/-- R93: a UOP is read as a row exactly when (UOP & mask) == canonical; a CTRL word is START exactly when bit 0 is set,
CLEAR exactly when bit 1 is set and bit 0 is not (R202, R203). -/
def Obligations.DecodeFollowsTheOpcodeMap : Prop :=
  (∀ (u : BitVec 8) (i : Instr), decodeUop u = .ok i ↔ i ∈ uopRows ∧ u &&& uopMask i = uopCode i) ∧
  (∀ (v : Word) (i : Instr), decodeCtrl v = .ok i ↔
    (i = .start v ∧ v.getLsbD 0 = true) ∨ (i = .clear v ∧ v.getLsbD 0 = false ∧ v.getLsbD 1 = true))

/-- R103: the reserved values, range by range, and that each of the 256 values matches exactly one row or is reserved. -/
def Obligations.EveryUopIsOneRowOrReserved : Prop :=
  ∀ u : BitVec 8,
    (decodeUop u = .error .grpCntClass ↔ 0x95 ≤ u.toNat ∧ u.toNat ≤ 0x97) ∧
    (decodeUop u = .error .entIdClass ↔ 0x9D ≤ u.toNat ∧ u.toNat ≤ 0x9F) ∧
    (decodeUop u = .error .entValClass ↔ 0xA4 ≤ u.toNat ∧ u.toNat ≤ 0xA7) ∧
    (decodeUop u = .error .varLenClass ↔
      (0xA8 ≤ u.toNat ∧ u.toNat ≤ 0xAB) ∨ (0xAD ≤ u.toNat ∧ u.toNat ≤ 0xAF)) ∧
    (decodeUop u = .error .varDataClass ↔
      (0xB0 ≤ u.toNat ∧ u.toNat ≤ 0xB3) ∨ (0xB5 ≤ u.toNat ∧ u.toNat ≤ 0xB7)) ∧
    (decodeUop u = .error .reservedState ↔ 0xC8 ≤ u.toNat ∧ u.toNat ≤ 0xEF) ∧
    decodeUop u ≠ .error .noCommand ∧
    ((∃ r, decodeUop u = .error r) → ∀ i ∈ uopRows, u &&& uopMask i ≠ uopCode i) ∧
    ((∀ r, decodeUop u ≠ .error r) →
      ∃ i ∈ uopRows, u &&& uopMask i = uopCode i ∧ ∀ j ∈ uopRows, u &&& uopMask j = uopCode j → j = i)

/-! ## The step -/

/-- R9, R21, R204: a step runs the decoded instruction: the UOP that {STATE, CLS} selects when it is the engine's turn
(an empty agenda, an engine move, or a pop that waits on an empty OUTQ), and the command of a CTRL write. -/
def Obligations.StepRunsTheDecodedInstruction : Prop :=
  (∀ (s : State) (i : Instr), decodeUop (uop s) = .ok i →
    (s.agenda = [] → step s = exec i s) ∧
    (∀ rest, s.agenda = .engine :: rest → step s = exec i { s with agenda := rest }) ∧
    (∀ rest, s.agenda = .pop :: rest → s.outq = [] → step s = exec i s)) ∧
  (∀ (s : State) (v : Word) (i : Instr) (rest : List Move), decodeCtrl v = .ok i →
    s.agenda = .csrWrite Csr.ctrl allLanes v :: rest → step s = exec i { s with agenda := rest })

/-- The model's interface (log 8): a table word that decodes is run by the very next step, as a UOP in {STATE, CLS} or
as a CTRL write. -/
def Obligations.StepRunsThePlacedWord : Prop :=
  ∀ (s : State) (nbits w : Nat) (i : Instr), decodeTableWord nbits w = some i →
    (isCommandWord nbits w = true → step (s.withFetchWord nbits w) = exec i s) ∧
    (isCommandWord nbits w = false → step (s.withFetchWord nbits w) =
      exec i { s with state := (BitVec.ofNat 8 w).extractLsb' 3 5, cls := (BitVec.ofNat 8 w).extractLsb' 0 3 })

/-- R104: on a reserved UOP the engine has no successor: its turn is the fault that names the value.
Moves of the host and the consumer are no part of this; that the model lets them go on there is its choice (log 25). -/
def Obligations.ReservedUopHasNoSuccessor : Prop :=
  ∀ (s : State) (r : DecodeReject), decodeUop (uop s) = .error r →
    (s.agenda = [] → step s = .fault (.reservedUop (uop s))) ∧
    (∀ rest, s.agenda = .engine :: rest → step s = .fault (.reservedUop (uop s)))

/-! ## Reset and invariants -/

/-- R44: the reset value of every register, and what START and CLEAR clear and keep. The model's own fields at reset are
its choice (log 19). -/
def Obligations.ResetStateIsTheTable : Prop :=
  (State.reset.state = 0x00#5 ∧ State.reset.cls = 0#3 ∧ State.reset.pos = 0#32 ∧ State.reset.len = 0#32 ∧
    State.reset.imei = Vector.replicate 15 0#8 ∧ State.reset.flen = 0#32 ∧ State.reset.codec = 0#8 ∧
    State.reset.nrec = 0#8 ∧ State.reset.nrec2 = 0#8 ∧ State.reset.crc = 0#32 ∧ State.reset.recDone = 0#8 ∧
    State.reset.total = 0#16 ∧ State.reset.sumk = 0#19 ∧ State.reset.k = 0#16 ∧ State.reset.idx = 0#16 ∧
    State.reset.id = 0#16 ∧ State.reset.n = 0#16 ∧ State.reset.err = 0#3 ∧ State.reset.errUop = 0#8 ∧
    State.reset.errPos = 0#32 ∧ State.reset.cmm = false ∧ State.reset.irqEn = false ∧ State.reset.outq = []) ∧
  (∀ (c : BitVec 5) (s : State), clearDecode c s =
    { State.reset with
      state := c, len := s.len, irqEn := s.irqEn, outq := s.outq, buf := s.buf, written := s.written,
      agenda := s.agenda, rdata := s.rdata, partialFrame := s.partialFrame, frames := s.frames }) ∧
  (∀ (s : State) (v : Word), busy s = false → s.len.toNat ≤ Config.maxLen →
    (∀ a, a < s.len.toNat → a ∈ s.written) →
    exec (.start v) s = .next (clearDecode 0x01#5 { s with irqEn := v.getLsbD 2 })) ∧
  (∀ (s : State) (v : Word), busy s = false →
    exec (.clear v) s = .next (clearDecode 0x00#5 { s with irqEn := v.getLsbD 2 })) ∧
  csrStatus State.reset = 0x00002000#32

/-- The invariant holds at reset. -/
def Obligations.InvHoldsAtReset : Prop := Invariant State.reset

/-- R35, R104, R190, R253, R256 and the other clauses of Invariant: every step of every agent keeps the invariant. -/
def Obligations.EveryStepKeepsInv : Prop :=
  ∀ s s' : State, Invariant s → step s = .next s' → Invariant s'

/-- BUF keeps its canonical form, whatever else holds of the state. -/
def Obligations.EveryStepKeepsBufForm : Prop :=
  ∀ s s' : State, Memory.wf s.buf → step s = .next s' → Memory.wf s'.buf

/-- R104, R62, R253: from a state that meets the invariant the engine's turn neither faults nor is refused: it never
meets a reserved UOP and never reads a byte that nothing has written. In IDLE, DONE, ERROR and in a hold R9 gives the
engine no step; that the turn there answers the unchanged state as a next state is the model's choice (log 5). -/
def Obligations.EngineTurnNeverStops : Prop :=
  ∀ s : State, Invariant s → ∃ s', engineTurn s = .next s'

/-- R35, first line: POS ≤ LEN stays true until the host next writes LEN. -/
def Obligations.PosStaysWithinLen : Prop :=
  ∀ s s' : State, Invariant s → s.pos.toNat ≤ s.len.toNat →
    (∀ lanes v rest, s.agenda ≠ .csrWrite Csr.len lanes v :: rest) →
    step s = .next s' → s'.pos.toNat ≤ s'.len.toNat

/-! ## The shape of a step, errors -/

/-- R63, R222, R226: any reading step with fewer than n bytes left raises TruncatedFrame: ERR = 2, its own code and POS
recorded, END_ERR emitted, STATE = ERROR, and nothing else changed. -/
def Obligations.ShortReadRaisesTruncatedFrame : Prop :=
  ∀ i ∈ readingRows, ∀ s : State, s.len.toNat < s.pos.toNat + readWidth i s → hasRoom 1 s = true →
    exec i s = .next
      { s with
        state := 0x1F#5, err := 2#3, errUop := uopCode i, errPos := s.pos,
        outq := s.outq ++ [{ tag := 0xF8#8, recNo := s.recDone, ioId := 0#16,
                             value := s.pos ++ 0#16 ++ uopCode i ++ 0#5 ++ 2#3 }] }

/-- R96: where OUTQ lacks room for the tokens a step would emit (its success count, or one for an error) the engine
holds and nothing changes; an empty queue has room for every step. -/
def Obligations.HoldChangesNothing : Prop :=
  (∀ i ∈ readingRows, ∀ s : State,
    (s.pos.toNat + readWidth i s ≤ s.len.toNat → hasRoom (successTokens i) s = false → exec i s = .next s) ∧
    (s.len.toNat < s.pos.toNat + readWidth i s → hasRoom 1 s = false → exec i s = .next s)) ∧
  (∀ s : State, s.len.toNat < 20 → hasRoom 1 s = false → exec .lenChk s = .next s) ∧
  (∀ s : State, 20 ≤ s.len.toNat → hasRoom 0 s = false → exec .lenChk s = .next s) ∧
  (∀ (s : State) (i : Instr), s.outq = [] → hasRoom (successTokens i) s = true ∧ hasRoom 1 s = true)

/-- R226, R220: error entry, for every step and error kind, with one free place in OUTQ. -/
def Obligations.ErrorEntryIsPrecise : Prop :=
  ∀ (i : Instr) (e : ErrKind) (s : State), hasRoom 1 s = true →
    raiseError i e s = .next
      { s with
        state := 0x1F#5, err := errCode e, errUop := uopCode i, errPos := s.pos,
        outq := s.outq ++ [{ tag := 0xF8#8, recNo := s.recDone, ioId := 0#16,
                             value := s.pos ++ 0#16 ++ uopCode i ++ 0#5 ++ errCode e }] }

/-- R121, R221: LEN_CHK raises InvalidLength below 20 bytes and goes on to HDR_PRE from 20 up; it reads no byte. -/
def Obligations.LenChkTestsTheMinimumLength : Prop :=
  (∀ s : State, s.len.toNat < 20 → hasRoom 1 s = true →
    exec .lenChk s = .next
      { s with
        state := 0x1F#5, err := 1#3, errUop := 0x08#8, errPos := s.pos,
        outq := s.outq ++ [{ tag := 0xF8#8, recNo := s.recDone, ioId := 0#16,
                             value := s.pos ++ 0#16 ++ 0x08#8 ++ 0#5 ++ 1#3 }] }) ∧
  (∀ s : State, 20 ≤ s.len.toNat → hasRoom 0 s = true → exec .lenChk s = .next { s with state := 0x02#5 })

/-- R123, R223: an identity byte at or above 0x80 raises InvalidEncoding; POS and IMEI stay. -/
def Obligations.HdrImeiRaisesInvalidEncoding : Prop :=
  ∀ (s : State) (bs : List Byte), Ready .hdrImei s bs → (∃ b ∈ bs, 0x80 ≤ b.toNat) →
    exec .hdrImei s = .next
      { s with
        state := 0x1F#5, err := 3#3, errUop := 0x18#8, errPos := s.pos,
        outq := s.outq ++ [{ tag := 0xF8#8, recNo := s.recDone, ioId := 0#16,
                             value := s.pos ++ 0#16 ++ 0x18#8 ++ 0#5 ++ 3#3 }] }

/-- R229, R220, R222: which step raises which error. -/
def Obligations.EachStepRaisesOnlyItsErrors : Prop :=
  ∀ (s s' : State) (i : Instr), Invariant s → decodeUop (uop s) = .ok i → exec i s = .next s' →
    errorFlag s = false → errorFlag s' = true →
      s'.errUop = uopCode i ∧ s'.errPos = s.pos ∧ s'.pos = s.pos ∧
      i ≠ .idle ∧ i ≠ .done ∧ i ≠ .hdrPre ∧
      ((s'.err = 1#3 ∧ i = .lenChk ∧ s.pos = 0#32) ∨
       (s'.err = 2#3 ∧ i ∈ readingRows ∧ i ≠ .hdrImei ∧ (i = .varData → s.n ≠ 0#16)) ∨
       (s'.err = 3#3 ∧ i = .hdrImei ∧ s.pos = 2#32))

/-! ## What each instruction does -/

/-- R120, R192, R193: IDLE, DONE and ERROR have no engine step: nothing changes. That the model answers an unchanged
next state is its choice (log 5). -/
def Obligations.RestingStatesChangeNothing : Prop :=
  ∀ s : State, exec .idle s = .next s ∧ exec .done s = .next s ∧ exec .error s = .next s

/-- R123: fifteen ASCII bytes go to IMEI in wire order and the token refers to BUF[2..16]. -/
def Obligations.HdrImeiStoresTheIdentity : Prop :=
  ∀ (s : State) (bs : List Byte), Ready .hdrImei s bs → (∀ b ∈ bs, b.toNat < 0x80) →
    (imeiOf bs).toList = bs ∧
    exec .hdrImei s = .next
      { s with
        pos := s.pos + 15#32, imei := imeiOf bs, state := 0x04#5,
        outq := s.outq ++ [{ tag := 0x18#8, recNo := 0#8, ioId := 0#16, value := 2#32 ++ 15#32 }] }

/-- R122, R124, R125, R126, R128: the two preambles are read and discarded, whatever they hold; FLEN, CODEC and NREC are
read, stored and emitted; NREC = 0 goes straight to the footer. -/
def Obligations.HeaderFieldsAreRead : Prop :=
  (∀ (s : State) (bs : List Byte), Ready .hdrPre s bs →
    exec .hdrPre s = .next { s with pos := s.pos + 2#32, state := 0x03#5 }) ∧
  (∀ (s : State) (bs : List Byte), Ready .hdrZero s bs →
    exec .hdrZero s = .next { s with pos := s.pos + 4#32, state := 0x05#5 }) ∧
  (∀ (s : State) (b0 b1 b2 b3 : Byte), Ready .hdrFlen s [b0, b1, b2, b3] →
    exec .hdrFlen s = .next
      { s with
        pos := s.pos + 4#32, flen := b0 ++ b1 ++ b2 ++ b3, state := 0x06#5,
        outq := s.outq ++ [{ tag := 0x28#8, recNo := 0#8, ioId := 0#16,
                             value := (b0 ++ b1 ++ b2 ++ b3).setWidth 64 }] }) ∧
  (∀ (s : State) (b : Byte), Ready .hdrCodec s [b] →
    exec .hdrCodec s = .next
      { s with
        pos := s.pos + 1#32, codec := b, state := 0x07#5,
        outq := s.outq ++ [{ tag := 0x30#8, recNo := 0#8, ioId := 0#16, value := b.setWidth 64 }] }) ∧
  (∀ (s : State) (b : Byte), Ready .hdrNrec s [b] →
    exec .hdrNrec s = .next
      { s with
        pos := s.pos + 1#32, nrec := b, state := (if b = 0#8 then 0x17#5 else 0x08#5),
        outq := s.outq ++ [{ tag := 0x38#8, recNo := 0#8, ioId := 0#16, value := b.setWidth 64 }] })

/-- R141, R142, R146 to R149: the six plain record fields, every value accepted. -/
def Obligations.RecordScalarsAreEmitted : Prop :=
  (∀ (s : State) (b0 b1 b2 b3 b4 b5 b6 b7 : Byte), Ready .recTs s [b0, b1, b2, b3, b4, b5, b6, b7] →
    exec .recTs s = .next
      { s with
        pos := s.pos + 8#32, state := 0x09#5,
        outq := s.outq ++ [{ tag := 0x40#8, recNo := s.recDone, ioId := 0#16,
                             value := b0 ++ b1 ++ b2 ++ b3 ++ b4 ++ b5 ++ b6 ++ b7 }] }) ∧
  (∀ (s : State) (b : Byte), Ready .recPrio s [b] →
    exec .recPrio s = .next
      { s with
        pos := s.pos + 1#32, state := 0x0A#5,
        outq := s.outq ++ [{ tag := 0x48#8, recNo := s.recDone, ioId := 0#16, value := b.setWidth 64 }] }) ∧
  (∀ (s : State) (b0 b1 : Byte), Ready .recAlt s [b0, b1] →
    exec .recAlt s = .next
      { s with
        pos := s.pos + 2#32, state := 0x0D#5,
        outq := s.outq ++ [{ tag := 0x60#8, recNo := s.recDone, ioId := 0#16, value := (b0 ++ b1).setWidth 64 }] }) ∧
  (∀ (s : State) (b0 b1 : Byte), Ready .recAng s [b0, b1] →
    exec .recAng s = .next
      { s with
        pos := s.pos + 2#32, state := 0x0E#5,
        outq := s.outq ++ [{ tag := 0x68#8, recNo := s.recDone, ioId := 0#16, value := (b0 ++ b1).setWidth 64 }] }) ∧
  (∀ (s : State) (b : Byte), Ready .recSat s [b] →
    exec .recSat s = .next
      { s with
        pos := s.pos + 1#32, state := 0x0F#5,
        outq := s.outq ++ [{ tag := 0x70#8, recNo := s.recDone, ioId := 0#16, value := b.setWidth 64 }] }) ∧
  (∀ (s : State) (b0 b1 : Byte), Ready .recSpd s [b0, b1] →
    exec .recSpd s = .next
      { s with
        pos := s.pos + 2#32, state := 0x10#5,
        outq := s.outq ++ [{ tag := 0x78#8, recNo := s.recDone, ioId := 0#16, value := (b0 ++ b1).setWidth 64 }] })

/-- R143, R145, R97: a coordinate token carries m in bits 63:33, s in bit 32 and the raw u. -/
def Obligations.CoordinatesAreEmittedWithSignAndMagnitude : Prop :=
  (∀ (s : State) (b0 b1 b2 b3 : Byte), Ready .recLon s [b0, b1, b2, b3] →
    exec .recLon s = .next
      { s with
        pos := s.pos + 4#32, state := 0x0B#5,
        outq := s.outq ++ [{ tag := 0x50#8, recNo := s.recDone, ioId := 0#16,
                             value := (coordMag (b0 ++ b1 ++ b2 ++ b3)).extractLsb' 0 31 ++
                               BitVec.ofBool (coordSign (b0 ++ b1 ++ b2 ++ b3)) ++ (b0 ++ b1 ++ b2 ++ b3) }] }) ∧
  (∀ (s : State) (b0 b1 b2 b3 : Byte), Ready .recLat s [b0, b1, b2, b3] →
    exec .recLat s = .next
      { s with
        pos := s.pos + 4#32, state := 0x0C#5,
        outq := s.outq ++ [{ tag := 0x58#8, recNo := s.recDone, ioId := 0#16,
                             value := (coordMag (b0 ++ b1 ++ b2 ++ b3)).extractLsb' 0 31 ++
                               BitVec.ofBool (coordSign (b0 ++ b1 ++ b2 ++ b3)) ++ (b0 ++ b1 ++ b2 ++ b3) }] })

/-- R161, R162: the event id is only emitted; the total count goes to TOTAL, SUMK is cleared and the 1-byte sub-group
follows. -/
def Obligations.EventIdAndTotalAreRead : Prop :=
  (∀ (s : State) (b0 b1 : Byte), Ready .ioEvid s [b0, b1] →
    exec .ioEvid s = .next
      { s with
        pos := s.pos + 2#32, state := 0x11#5,
        outq := s.outq ++ [{ tag := 0x80#8, recNo := s.recDone, ioId := 0#16, value := (b0 ++ b1).setWidth 64 }] }) ∧
  (∀ (s : State) (b0 b1 : Byte), Ready .ioTotal s [b0, b1] →
    exec .ioTotal s = .next
      { s with
        pos := s.pos + 2#32, total := b0 ++ b1, sumk := 0#19, state := 0x12#5, cls := 0#3,
        outq := s.outq ++ [{ tag := 0x88#8, recNo := s.recDone, ioId := 0#16, value := (b0 ++ b1).setWidth 64 }] })

/-- R163 to R167, R160: a sub-group's count goes to K and into SUMK and IDX is cleared. A count that is not 0 leads to
the first entry of the class; 0 leads to the next class, or, in the variable class, ends the record: CMM is set if the
counts do not add up to TOTAL, REC_DONE counts the record, and the footer follows the last one. -/
def Obligations.GroupCountsAreRead : Prop :=
  ∀ p ∈ [(Instr.grpCnt1, 0#3), (.grpCnt2, 1#3), (.grpCnt4, 2#3), (.grpCnt8, 3#3), (.grpCntX, 4#3)],
    ∀ (s : State) (b0 b1 : Byte), Ready p.1 s [b0, b1] →
      (b0 ++ b1 ≠ 0#16 →
        exec p.1 s = .next
          { s with
            pos := s.pos + 2#32, k := b0 ++ b1, idx := 0#16, sumk := s.sumk + (b0 ++ b1).setWidth 19,
            state := 0x13#5, cls := p.2,
            outq := s.outq ++ [{ tag := 0x90#8 + p.2.setWidth 8, recNo := s.recDone, ioId := 0#16,
                                 value := (b0 ++ b1).setWidth 64 }] }) ∧
      (b0 ++ b1 = 0#16 → p.2 ≠ 4#3 →
        exec p.1 s = .next
          { s with
            pos := s.pos + 2#32, k := 0#16, idx := 0#16, state := 0x12#5, cls := p.2 + 1#3,
            outq := s.outq ++ [{ tag := 0x90#8 + p.2.setWidth 8, recNo := s.recDone, ioId := 0#16,
                                 value := 0#64 }] }) ∧
      (b0 ++ b1 = 0#16 → p.2 = 4#3 →
        exec p.1 s = .next
          { s with
            pos := s.pos + 2#32, k := 0#16, idx := 0#16,
            cmm := s.cmm || s.sumk.toNat != s.total.toNat, recDone := s.recDone + 1#8,
            state := (if s.recDone.toNat + 1 = s.nrec.toNat then 0x17#5 else 0x08#5),
            outq := s.outq ++ [{ tag := 0x94#8, recNo := s.recDone, ioId := 0#16, value := 0#64 }] })

/-- R168 to R172, R177: an entry's id goes to ID and its length to N; no token is emitted. -/
def Obligations.EntryIdsAndLengthsAreRead : Prop :=
  (∀ p ∈ [(Instr.entId1, 0#3), (.entId2, 1#3), (.entId4, 2#3), (.entId8, 3#3)],
    ∀ (s : State) (b0 b1 : Byte), Ready p.1 s [b0, b1] →
      exec p.1 s = .next { s with pos := s.pos + 2#32, id := b0 ++ b1, state := 0x14#5, cls := p.2 }) ∧
  (∀ (s : State) (b0 b1 : Byte), Ready .entIdX s [b0, b1] →
    exec .entIdX s = .next { s with pos := s.pos + 2#32, id := b0 ++ b1, state := 0x15#5 }) ∧
  (∀ (s : State) (b0 b1 : Byte), Ready .varLen s [b0, b1] →
    exec .varLen s = .next { s with pos := s.pos + 2#32, n := b0 ++ b1, state := 0x16#5 })

/-- R173 to R176, R160: a fixed-class value is emitted with the entry's id, IDX counts it, and the next entry of the
class or, after the last, the next class's count follows. -/
def Obligations.EntryValuesAreEmitted : Prop :=
  (∀ (s : State) (b : Byte), Ready .entVal1 s [b] →
    exec .entVal1 s = .next
      { s with
        pos := s.pos + 1#32, idx := s.idx + 1#16,
        state := (if s.idx.toNat + 1 = s.k.toNat then 0x12#5 else 0x13#5),
        cls := (if s.idx.toNat + 1 = s.k.toNat then 1#3 else 0#3),
        outq := s.outq ++ [{ tag := 0xA0#8, recNo := s.recDone, ioId := s.id, value := b.setWidth 64 }] }) ∧
  (∀ (s : State) (b0 b1 : Byte), Ready .entVal2 s [b0, b1] →
    exec .entVal2 s = .next
      { s with
        pos := s.pos + 2#32, idx := s.idx + 1#16,
        state := (if s.idx.toNat + 1 = s.k.toNat then 0x12#5 else 0x13#5),
        cls := (if s.idx.toNat + 1 = s.k.toNat then 2#3 else 1#3),
        outq := s.outq ++ [{ tag := 0xA1#8, recNo := s.recDone, ioId := s.id, value := (b0 ++ b1).setWidth 64 }] }) ∧
  (∀ (s : State) (b0 b1 b2 b3 : Byte), Ready .entVal4 s [b0, b1, b2, b3] →
    exec .entVal4 s = .next
      { s with
        pos := s.pos + 4#32, idx := s.idx + 1#16,
        state := (if s.idx.toNat + 1 = s.k.toNat then 0x12#5 else 0x13#5),
        cls := (if s.idx.toNat + 1 = s.k.toNat then 3#3 else 2#3),
        outq := s.outq ++ [{ tag := 0xA2#8, recNo := s.recDone, ioId := s.id,
                             value := (b0 ++ b1 ++ b2 ++ b3).setWidth 64 }] }) ∧
  (∀ (s : State) (b0 b1 b2 b3 b4 b5 b6 b7 : Byte), Ready .entVal8 s [b0, b1, b2, b3, b4, b5, b6, b7] →
    exec .entVal8 s = .next
      { s with
        pos := s.pos + 8#32, idx := s.idx + 1#16,
        state := (if s.idx.toNat + 1 = s.k.toNat then 0x12#5 else 0x13#5),
        cls := (if s.idx.toNat + 1 = s.k.toNat then 4#3 else 3#3),
        outq := s.outq ++ [{ tag := 0xA3#8, recNo := s.recDone, ioId := s.id,
                             value := b0 ++ b1 ++ b2 ++ b3 ++ b4 ++ b5 ++ b6 ++ b7 }] })

/-- R178, R160, R101: VAR_DATA passes over N bytes and emits a reference to them; the next entry follows, or the record
ends as in GroupCountsAreRead. N = 0 reads nothing. -/
def Obligations.VarDataIsDeliveredByReference : Prop :=
  ∀ (s : State) (bs : List Byte), Ready .varData s bs →
    bs.length = s.n.toNat ∧
    (s.idx.toNat + 1 ≠ s.k.toNat →
      exec .varData s = .next
        { s with
          pos := s.pos + s.n.setWidth 32, idx := s.idx + 1#16, state := 0x13#5, cls := 4#3,
          outq := s.outq ++ [{ tag := 0xB4#8, recNo := s.recDone, ioId := s.id,
                               value := s.pos ++ s.n.setWidth 32 }] }) ∧
    (s.idx.toNat + 1 = s.k.toNat →
      exec .varData s = .next
        { s with
          pos := s.pos + s.n.setWidth 32, idx := s.idx + 1#16,
          cmm := s.cmm || s.sumk.toNat != s.total.toNat, recDone := s.recDone + 1#8,
          state := (if s.recDone.toNat + 1 = s.nrec.toNat then 0x17#5 else 0x08#5),
          outq := s.outq ++ [{ tag := 0xB4#8, recNo := s.recDone, ioId := s.id,
                               value := s.pos ++ s.n.setWidth 32 }] })

/-- R190, R191: the record count echo and the checksum are stored and emitted unvalidated; FTR_CRC also emits END_OK
with CMM and the final cursor and enters DONE. -/
def Obligations.FooterStepsComplete : Prop :=
  (∀ (s : State) (b : Byte), Ready .ftrNrec2 s [b] →
    exec .ftrNrec2 s = .next
      { s with
        pos := s.pos + 1#32, nrec2 := b, state := 0x18#5,
        outq := s.outq ++ [{ tag := 0xB8#8, recNo := s.nrec, ioId := 0#16, value := b.setWidth 64 }] }) ∧
  (∀ (s : State) (b0 b1 b2 b3 : Byte), Ready .ftrCrc s [b0, b1, b2, b3] →
    exec .ftrCrc s = .next
      { s with
        pos := s.pos + 4#32, crc := b0 ++ b1 ++ b2 ++ b3, state := 0x1E#5,
        outq := s.outq ++
          [{ tag := 0xC0#8, recNo := s.nrec, ioId := 0#16, value := (b0 ++ b1 ++ b2 ++ b3).setWidth 64 },
           { tag := 0xF0#8, recNo := s.nrec, ioId := 0#16,
             value := 0#31 ++ BitVec.ofBool s.cmm ++ (s.pos + 4#32) }] })

/-- R202, R203, R253: while BUSY = 0, START over a loaded frame clears every decode register and enters LEN_CHK, CLEAR
clears them and enters IDLE; LEN, BUF and OUTQ stay and IRQ_EN takes bit 2. -/
def Obligations.CommandsClearAndGo : Prop :=
  (∀ (s : State) (v : Word), busy s = false → s.len.toNat ≤ Config.maxLen →
    (∀ a, a < s.len.toNat → a ∈ s.written) →
    exec (.start v) s = .next
      { State.reset with
        state := 0x01#5, len := s.len, irqEn := v.getLsbD 2, outq := s.outq, buf := s.buf, written := s.written,
        agenda := s.agenda, rdata := s.rdata, partialFrame := s.partialFrame, frames := s.frames }) ∧
  (∀ (s : State) (v : Word), busy s = false →
    exec (.clear v) s = .next
      { State.reset with
        state := 0x00#5, len := s.len, irqEn := v.getLsbD 2, outq := s.outq, buf := s.buf, written := s.written,
        agenda := s.agenda, rdata := s.rdata, partialFrame := s.partialFrame, frames := s.frames })

/-! ## The host interface -/

/-- R204, R210, R211: the order in which the fields of one CTRL write apply. IRQ_EN takes bit 2 always; a command while
BUSY is ignored; bit 0 is START whatever bit 1 holds; else bit 1 is CLEAR. -/
def Obligations.CtrlWriteOrder : Prop :=
  ∀ (s : State) (v : Word) (rest : List Move), s.agenda = .csrWrite Csr.ctrl allLanes v :: rest →
    (busy s = true → step s = .next { s with agenda := rest, irqEn := v.getLsbD 2 }) ∧
    (busy s = false → v.getLsbD 0 = true → s.len.toNat ≤ Config.maxLen →
      (∀ a, a < s.len.toNat → a ∈ s.written) →
      step s = .next (clearDecode 0x01#5 { s with agenda := rest, irqEn := v.getLsbD 2 })) ∧
    (busy s = false → v.getLsbD 0 = false → v.getLsbD 1 = true →
      step s = .next (clearDecode 0x00#5 { s with agenda := rest, irqEn := v.getLsbD 2 })) ∧
    (busy s = false → v.getLsbD 0 = false → v.getLsbD 1 = false →
      step s = .next { s with agenda := rest, irqEn := v.getLsbD 2 })

/-- R205: a LEN write is ignored while BUSY and sets LEN otherwise. -/
def Obligations.LenWriteIsIgnoredWhileBusy : Prop :=
  ∀ (s : State) (v : Word) (rest : List Move), s.agenda = .csrWrite Csr.len allLanes v :: rest →
    (busy s = true → step s = .next { s with agenda := rest }) ∧
    (busy s = false → step s = .next { s with agenda := rest, len := v })

/-- R206, R57: an aligned write to any register but CTRL and LEN, or to an unmapped offset, changes nothing. -/
def Obligations.WritesToReadOnlyRegistersAreIgnored : Prop :=
  ∀ (s : State) (off v : Word) (rest : List Move), s.agenda = .csrWrite off allLanes v :: rest →
    off.toNat % 4 = 0 → off ≠ 0x00#32 → off ≠ 0x08#32 → step s = .next { s with agenda := rest }

/-- R207, R57: an aligned CSR read returns the register's value and has no side effect. -/
def Obligations.CsrReadHasNoSideEffect : Prop :=
  ∀ (s : State) (off : Word) (rest : List Move), s.agenda = .csrRead off allLanes :: rest →
    off.toNat % 4 = 0 → step s = .next { s with agenda := rest, rdata := csrValue off s }

/-- R46 to R57: the value of each of the 14 registers, field by field, and 0 everywhere else. -/
def Obligations.CsrValuesAreTheFields : Prop :=
  ∀ s : State,
    csrValue 0x00#32 s = 0#29 ++ BitVec.ofBool s.irqEn ++ 0#2 ∧
    csrValue 0x04#32 s =
      0#17 ++ BitVec.ofBool (decide (s.outq.length = Config.outDepth)) ++ BitVec.ofBool (decide (s.outq = [])) ++
      BitVec.ofBool (decide (s.state = 0x1E#5 ∨ s.state = 0x1F#5)) ++ BitVec.ofBool s.cmm ++
      BitVec.ofBool (decide (s.state = 0x1F#5)) ++ BitVec.ofBool (decide (s.state = 0x1E#5)) ++
      BitVec.ofBool (decide (s.state ≠ 0x00#5 ∧ s.state ≠ 0x1E#5 ∧ s.state ≠ 0x1F#5)) ++ (s.state ++ s.cls) ∧
    csrValue 0x08#32 s = s.len ∧
    csrValue 0x0C#32 s = s.pos ∧
    csrValue 0x10#32 s = 0#16 ++ s.errUop ++ 0#5 ++ s.err ∧
    csrValue 0x14#32 s = s.errPos ∧
    csrValue 0x18#32 s = s.flen ∧
    csrValue 0x1C#32 s = s.recDone ++ s.nrec2 ++ s.nrec ++ s.codec ∧
    csrValue 0x20#32 s = s.crc ∧
    csrValue 0x24#32 s = s.imei[0] ++ s.imei[1] ++ s.imei[2] ++ s.imei[3] ∧
    csrValue 0x28#32 s = s.imei[4] ++ s.imei[5] ++ s.imei[6] ++ s.imei[7] ∧
    csrValue 0x2C#32 s = s.imei[8] ++ s.imei[9] ++ s.imei[10] ++ s.imei[11] ∧
    csrValue 0x30#32 s = s.imei[12] ++ s.imei[13] ++ s.imei[14] ++ 0#8 ∧
    csrValue 0x34#32 s = 0x0001#16 ++ BitVec.ofNat 8 (min Config.outDepth 255) ++ 20#8 ∧
    (∀ off : Word, 0x38 ≤ off.toNat → csrValue off s = 0#32)

/-- R208, R98, R213: a pop on a nonempty OUTQ takes its head: END_OK closes a token frame, END_ERR makes the consumer
discard the one it was receiving; on an empty OUTQ the consumer waits and the engine moves, which is how the model
waits (log 6). -/
def Obligations.PopTakesTheHeadToken : Prop :=
  ∀ (s : State) (rest : List Move), s.agenda = .pop :: rest →
    (s.outq = [] → step s = engineTurn s) ∧
    (∀ t q, s.outq = t :: q →
      (t.tag = 0xF0#8 → step s = .next
        { s with agenda := rest, outq := q, frames := s.frames ++ [s.partialFrame ++ [t]], partialFrame := [] }) ∧
      (t.tag = 0xF8#8 → step s = .next { s with agenda := rest, outq := q, partialFrame := [] }) ∧
      (t.tag ≠ 0xF0#8 → t.tag ≠ 0xF8#8 → step s = .next
        { s with agenda := rest, outq := q, partialFrame := s.partialFrame ++ [t] }))

/-- R209, R61, R253: a host write to BUF while BUSY = 0 stores its bytes at rising offsets, leaves every other byte as
it was, counts them as written since reset and changes no register. That it does so also in DONE and ERROR with
references of earlier tokens still unread is the model's choice (log 23). Above MAX_LEN there is no BUF (log 13). -/
def Obligations.BufWriteStoresItsBytes : Prop :=
  ∀ (s : State) (off : Nat) (bytes : List Byte) (rest : List Move), s.agenda = .bufWrite off bytes :: rest →
    busy s = false →
    (off + bytes.length ≤ Config.maxLen →
      ∃ m l, step s = .next { s with agenda := rest, buf := m, written := l } ∧
        (∀ a, readByte m a = if off ≤ a ∧ a < off + bytes.length then bytes[a - off]? else readByte s.buf a) ∧
        (∀ a, a ∈ l ↔ (off ≤ a ∧ a < off + bytes.length) ∨ a ∈ s.written)) ∧
    (Config.maxLen < off + bytes.length → step s = .fault (.bufOutOfRange off))

/-- R77, R255, R253: what a model refuses: a CSR access that is not an aligned word, a BUF write while BUSY, START with
LEN above MAX_LEN or over a byte unwritten since reset. -/
def Obligations.RefusalsTheSpecAsksFor : Prop :=
  (∀ (s : State) (off v : Word) (lanes : BitVec 4) (rest : List Move), off.toNat % 4 ≠ 0 ∨ lanes ≠ 0xF#4 →
    (s.agenda = .csrWrite off lanes v :: rest → step s = .refused .csrNotAlignedWord) ∧
    (s.agenda = .csrRead off lanes :: rest → step s = .refused .csrNotAlignedWord)) ∧
  (∀ (s : State) (off : Nat) (bytes : List Byte) (rest : List Move), busy s = true →
    s.agenda = .bufWrite off bytes :: rest → step s = .refused .bufWriteWhileBusy) ∧
  (∀ (s : State) (v : Word), busy s = false → Config.maxLen < s.len.toNat →
    exec (.start v) s = .refused .startLenBeyondMaxLen) ∧
  (∀ (s : State) (v : Word), busy s = false → s.len.toNat ≤ Config.maxLen →
    (∃ a, a < s.len.toNat ∧ a ∉ s.written) → exec (.start v) s = .refused .startUnwrittenByte)

/-- R232, R233, R34: the interrupt line is IRQ_EN and (DONE or ERROR); it is low after START, CLEAR, IRQ_EN = 0 and
reset; a CSR read leaves it as it is. -/
def Obligations.InterruptLineIsLevel : Prop :=
  (∀ s : State, irq s = true ↔ s.irqEn = true ∧ (s.state = 0x1E#5 ∨ s.state = 0x1F#5)) ∧
  (∀ (s s' : State) (v : Word), busy s = false → exec (.start v) s = .next s' ∨ exec (.clear v) s = .next s' →
    irq s' = false) ∧
  (∀ (s : State) (v : Word), v.getLsbD 2 = false → irq (setIrqEn v s) = false) ∧
  (∀ s : State, irq (resetBlock s) = false) ∧
  (∀ (s s' : State) (off : Word) (lanes : BitVec 4), readCsr off lanes s = .next s' → irq s' = irq s)

/-- R250, R251, R252: reset puts every register at its value of R44, empties OUTQ and leaves BUF as it is. That no byte
then counts as written since reset, and what the agents' own data become, is the model's reading (log 3, log 20). -/
def Obligations.ResetMoveResetsTheBlock : Prop :=
  ∀ (s : State) (rest : List Move), s.agenda = .reset :: rest →
    step s = .next
      { State.reset with buf := s.buf, agenda := rest, rdata := s.rdata, frames := s.frames }

/-! ## Frames -/

/-- R61, R23, R32: no engine step writes BUF (every byte reads as before), LEN, IRQ_EN or anything of the host's and the
consumer's; this covers all 38 micro-operations, none of which stores to memory. -/
def Obligations.EngineNeverWritesTheHostsSide : Prop :=
  ∀ i ∈ uopRows, ∀ s s' : State, exec i s = .next s' →
    (∀ a, readByte s'.buf a = readByte s.buf a) ∧ hostSide s' = hostSide s

/-- R130, R24: the header steps write only POS, STATE, OUTQ and their own result register (and, on an error, the error
registers). -/
def Obligations.HeaderStepsFrame : Prop :=
  ∀ i ∈ [Instr.idle, .lenChk, .hdrPre, .hdrImei, .hdrZero, .hdrFlen, .hdrCodec, .hdrNrec],
    ∀ s s' : State, exec i s = .next s' →
      (i ≠ .hdrImei → s'.imei = s.imei) ∧ (i ≠ .hdrFlen → s'.flen = s.flen) ∧
      (i ≠ .hdrCodec → s'.codec = s.codec) ∧ (i ≠ .hdrNrec → s'.nrec = s.nrec) ∧
      (i = .idle ∨ i = .lenChk → s'.pos = s.pos) ∧
      (s'.state ≠ 0x1F#5 → errRegs s' = errRegs s) ∧
      footerRegs s' = footerRegs s ∧ ioRegs s' = ioRegs s ∧ s'.recDone = s.recDone ∧ s'.cmm = s.cmm ∧
      s'.cls = s.cls ∧ hostSide s' = hostSide s ∧ (∀ a, readByte s'.buf a = readByte s.buf a)

/-- R141 to R149, R161, R90: the record steps and IO_EVID write only POS, STATE and OUTQ (and, on an error, the error
registers). -/
def Obligations.RecordStepsFrame : Prop :=
  ∀ i ∈ [Instr.recTs, .recPrio, .recLon, .recLat, .recAlt, .recAng, .recSat, .recSpd, .ioEvid],
    ∀ s s' : State, exec i s = .next s' →
      headerRegs s' = headerRegs s ∧ footerRegs s' = footerRegs s ∧ ioRegs s' = ioRegs s ∧
      (s'.state ≠ 0x1F#5 → errRegs s' = errRegs s) ∧
      s'.recDone = s.recDone ∧ s'.cmm = s.cmm ∧ s'.cls = s.cls ∧ hostSide s' = hostSide s ∧
      (∀ a, readByte s'.buf a = readByte s.buf a)

/-- R162 to R178: the steps of the IO element after IO_EVID write, of the registers, only those their rules name. -/
def Obligations.IoElementStepsFrame : Prop :=
  ∀ i ∈ [Instr.ioTotal, .grpCnt1, .grpCnt2, .grpCnt4, .grpCnt8, .grpCntX, .entId1, .entId2, .entId4, .entId8,
         .entIdX, .entVal1, .entVal2, .entVal4, .entVal8, .varLen, .varData],
    ∀ s s' : State, exec i s = .next s' →
      headerRegs s' = headerRegs s ∧ footerRegs s' = footerRegs s ∧
      (s'.state ≠ 0x1F#5 → errRegs s' = errRegs s) ∧
      (i ≠ .ioTotal → s'.total = s.total) ∧
      (i ∉ [Instr.ioTotal, .grpCnt1, .grpCnt2, .grpCnt4, .grpCnt8, .grpCntX] → s'.sumk = s.sumk) ∧
      (i ∉ [Instr.grpCnt1, .grpCnt2, .grpCnt4, .grpCnt8, .grpCntX] → s'.k = s.k) ∧
      (i ∈ [Instr.ioTotal, .entId1, .entId2, .entId4, .entId8, .entIdX, .varLen] → s'.idx = s.idx) ∧
      (i ∉ [Instr.entId1, .entId2, .entId4, .entId8, .entIdX] → s'.id = s.id) ∧
      (i ≠ .varLen → s'.n = s.n) ∧
      (i ≠ .grpCntX → i ≠ .varData → s'.recDone = s.recDone ∧ s'.cmm = s.cmm) ∧
      (i = .entIdX ∨ i = .varLen → s'.cls = s.cls) ∧
      hostSide s' = hostSide s ∧ (∀ a, readByte s'.buf a = readByte s.buf a)

/-- R190 to R193: the footer steps write only POS, STATE, OUTQ and their own result register (and, on an error, the
error registers); DONE and ERROR answer the state itself (log 5). -/
def Obligations.FooterStepsFrame : Prop :=
  ∀ i ∈ [Instr.ftrNrec2, .ftrCrc, .done, .error],
    ∀ s s' : State, exec i s = .next s' →
      (i = .done ∨ i = .error → s' = s) ∧
      headerRegs s' = headerRegs s ∧ ioRegs s' = ioRegs s ∧
      (i ≠ .ftrNrec2 → s'.nrec2 = s.nrec2) ∧ (i ≠ .ftrCrc → s'.crc = s.crc) ∧
      (s'.state ≠ 0x1F#5 → errRegs s' = errRegs s) ∧
      s'.recDone = s.recDone ∧ s'.cmm = s.cmm ∧ s'.cls = s.cls ∧ hostSide s' = hostSide s ∧
      (∀ a, readByte s'.buf a = readByte s.buf a)

/-- R202, R203: whatever their outcome, START and CLEAR leave LEN, BUF (every byte), OUTQ and the agents' own data. -/
def Obligations.CommandsFrame : Prop :=
  ∀ (s s' : State) (v : Word), exec (.start v) s = .next s' ∨ exec (.clear v) s = .next s' →
    s'.len = s.len ∧ (∀ a, readByte s'.buf a = readByte s.buf a) ∧ s'.buf = s.buf ∧ s'.written = s.written ∧
    s'.outq = s.outq ∧ s'.agenda = s.agenda ∧ s'.rdata = s.rdata ∧ s'.partialFrame = s.partialFrame ∧
    s'.frames = s.frames ∧ s'.irqEn = v.getLsbD 2

/-! ## Whole-machine rules -/

/-- R95, R73, R33: an engine step only appends to OUTQ, at most two tokens, and never beyond OUT_DEPTH. -/
def Obligations.EngineStepsOnlyAppendTokens : Prop :=
  ∀ i ∈ uopRows, ∀ s s' : State, s.outq.length ≤ Config.outDepth → exec i s = .next s' →
    ∃ ts, s'.outq = s.outq ++ ts ∧ ts.length ≤ 2 ∧ s'.outq.length ≤ Config.outDepth

/-- R66, R22: a step moves POS by exactly its read width, or not at all; never backward and never by more. -/
def Obligations.PosAdvancesByTheReadWidth : Prop :=
  ∀ i ∈ uopRows, ∀ s s' : State, exec i s = .next s' →
    s'.pos = s.pos ∨
    (s'.pos.toNat = s.pos.toNat + readWidth i s ∧ s'.pos.toNat ≤ s.len.toNat)

/-- R127, R87: neither CODEC nor FLEN steers the engine: with other values in them every step other than their own does
the same and carries the other values along. -/
def Obligations.CodecAndFlenSelectNothing : Prop :=
  ∀ i ∈ uopRows, i ≠ .hdrCodec → i ≠ .hdrFlen → ∀ (s s' : State) (c : BitVec 8) (f : Word),
    exec i s = .next s' → exec i { s with codec := c, flen := f } = .next { s' with codec := c, flen := f }

/-- R179, R181: TOTAL bounds nothing: with another value in it every step after IO_TOTAL leads to the same state but
for TOTAL itself and CMM. -/
def Obligations.TotalChangesOnlyTheDiagnostic : Prop :=
  ∀ i ∈ uopRows, i ≠ .ioTotal → ∀ (s s' : State) (t : BitVec 16), exec i s = .next s' →
    ∃ x, exec i { s with total := t } = .next x ∧ x.total = t ∧
      ({ x with total := s'.total, cmm := s'.cmm } : State) = s'

/-- R144: COORD_SM and COORD: s is bit 31; m is u, or its complement with no increment; m < 2^31; COORD = ±m / 10^7, in
steps of 10^−7 from −214.7483647 to +214.7483647. -/
def Obligations.CoordinateConverter : Prop :=
  ∀ u : Word,
    (u.getLsbD 31 = false → coordSign u = false ∧ coordMag u = u ∧ coord u = mkRat u.toNat 10000000) ∧
    (u.getLsbD 31 = true → coordSign u = true ∧ coordMag u = u ^^^ 0xFFFFFFFF#32 ∧
      coord u = mkRat (-((u ^^^ 0xFFFFFFFF#32).toNat : Int)) 10000000) ∧
    (coordMag u).toNat < 2 ^ 31 ∧
    mkRat (-2147483647) 10000000 ≤ coord u ∧ coord u ≤ mkRat 2147483647 10000000 ∧
    ∃ k : Int, coord u = mkRat k 10000000

/-- R152: for every u with bit 31 set the magnitude is one less than the two's-complement magnitude, so COORD lies
exactly 10^−7 nearer zero than a two's-complement reading. -/
def Obligations.NoTwosComplementCorrection : Prop :=
  ∀ u : Word, u.getLsbD 31 = true →
    (coordMag u).toNat + 1 = ((~~~u).toNat + 1) % 2 ^ 32 ∧
    coord u = mkRat u.toInt 10000000 + mkRat 1 10000000

/-- R230, R231, R254, R210: a resting state is left only by a CTRL write that commands START or CLEAR, or by reset; a
decode ends only by the engine's own step or by reset. -/
def Obligations.OnlyCommandsLeaveRestAndOnlyResetCutsADecode : Prop :=
  (∀ s s' : State, busy s = false → step s = .next s' → s'.state ≠ s.state →
    (∃ v rest, s.agenda = .csrWrite Csr.ctrl allLanes v :: rest ∧ (v.getLsbD 0 = true ∨ v.getLsbD 1 = true)) ∨
    (∃ rest, s.agenda = .reset :: rest)) ∧
  (∀ s s' : State, busy s = true → step s = .next s' → s'.state ≠ s.state →
    s.agenda = [] ∨ (∃ rest, s.agenda = .engine :: rest) ∨ (∃ rest, s.agenda = .pop :: rest ∧ s.outq = []) ∨
    (∃ rest, s.agenda = .reset :: rest))

/-- R241: a step of one block of a platform leaves every other block as it is. -/
def Obligations.PlatformBlocksShareNoState : Prop :=
  ∀ (j : Nat) (blocks blocks' : List State), platformStep j blocks = some blocks' →
    blocks'.length = blocks.length ∧ (∀ k, k ≠ j → blocks'[k]? = blocks[k]?) ∧
    ∃ s s', blocks[j]? = some s ∧ step s = .next s' ∧ blocks'[j]? = some s'

/-! ## The reference decode -/

/-- R43, R40, R42: a decoded Frame has exactly NREC records, an ASCII identity, and variable values as long as they
declare. -/
def Obligations.DecodedFramesAreWellFormed : Prop :=
  ∀ (bs : List Byte) (f : Frame) (p : Nat), decodeFrame bs = .ok (f, p) →
    f.records.length = f.nrec.toNat ∧ f.wf = true

/-- R86: for a frame that decodes, the bytes consumed are SIZE; the smallest is 32, and each record takes at least 38. -/
def Obligations.ConsumedBytesAreTheFrameSize : Prop :=
  ∀ (bs : List Byte) (f : Frame) (p : Nat), decodeFrame bs = .ok (f, p) →
    p = frameSize f ∧ p ≤ bs.length ∧ 32 ≤ p ∧ (∀ r ∈ f.records, 38 ≤ recordSize r)

/-- R129: what the header does for each length, in the reference decode. -/
def Obligations.HeaderTruncationPoints : Prop :=
  ∀ bs : List Byte,
    (bs.length < 20 → decodeFrame bs = .error .invalidLength) ∧
    (20 ≤ bs.length → allAscii ((bs.drop 2).take 15) = false → decodeFrame bs = .error .invalidEncoding) ∧
    (20 ≤ bs.length → bs.length < 32 → allAscii ((bs.drop 2).take 15) = true →
      decodeFrame bs = .error .truncatedFrame)

/-- R100, R101: the host rebuilds the Frame from its token frame and BUF as it was during the decode. -/
def Obligations.TokenFrameRebuildsTheFrame : Prop :=
  ∀ (bs : List Byte) (f : Frame) (p : Nat) (m : Memory), bs.length < 2 ^ 32 → decodeFrame bs = .ok (f, p) →
    (∀ a, a < bs.length → readByte m a = bs[a]?) → rebuild m (frameTokens f) = some f

/-- R196, R85, R98, R100, R261: from any state with BUSY = 0 and nothing left in OUTQ, a host that follows the boot
sequence for any frame within MAX_LEN, with a consumer that pops every token as soon as it appears, gets what DECODE
gives: DONE, TOKENS(F) and the final cursor, or ERROR with DECODE's error and no Frame; the engine takes at most
LEN + 2 steps. That the consumer pops at once is the schedule this statement fixes (log 4, log 6). -/
def Obligations.EngineComputesTheReferenceDecode : Prop :=
  ∀ (s : State) (bs : List Byte) (v : Word),
    busy s = false → s.outq = [] → s.partialFrame = [] → v.getLsbD 0 = true → bs.length ≤ Config.maxLen →
    (∀ f p, decodeFrame bs = .ok (f, p) →
      ∃ n t, n ≤ 3 + (bs.length + 2) + (frameTokens f).length ∧
        core.run n { s with agenda := bootMoves bs v ++ List.replicate (frameTokens f).length .pop } = .next t ∧
        t.state = 0x1E#5 ∧ t.pos.toNat = p ∧ t.outq = [] ∧ t.agenda = [] ∧ t.partialFrame = [] ∧
        t.frames = s.frames ++ [frameTokens f]) ∧
    (∀ e, decodeFrame bs = .error e →
      ∃ n m t, n ≤ 3 + (bs.length + 2) + m ∧
        core.run n { s with agenda := bootMoves bs v ++ List.replicate m .pop } = .next t ∧
        t.state = 0x1F#5 ∧ t.err = errCode e ∧ t.outq = [] ∧ t.agenda = [] ∧ t.partialFrame = [] ∧
        t.frames = s.frames)
end

