-- ==== Sys2Proof/Laws/Decode.lean ====
section
/-!
SUPPORT. The decoder's laws: a decoded micro-operation is a row of R93 that the word matches, no two rows match one
word, and what STATE and CLS are when a row is selected.
-/
namespace Sys2Proof.Machine

/-- Two rows of R93 always differ in a bit that both masks keep. -/
theorem uopRows_differ :
    uopRows.Pairwise (fun i j => (uopMask i &&& uopMask j) &&& (uopCode i ^^^ uopCode j) ≠ 0#8) := by
  decide +kernel

/-- No two rows of R93 match one word. -/
theorem uopRows_disjoint :
    uopRows.Pairwise (fun i j => ∀ u : BitVec 8, ¬(rowMatches u i = true ∧ rowMatches u j = true)) := by
  refine uopRows_differ.imp fun {i j} h u ⟨hi, hj⟩ => h ?_
  have hi' : u &&& uopMask i = uopCode i := by simpa [rowMatches] using hi
  have hj' : u &&& uopMask j = uopCode j := by simpa [rowMatches] using hj
  rw [← hi', ← hj']
  ext k
  simp
  cases u[k] <;> cases (uopMask i)[k] <;> cases (uopMask j)[k] <;> simp

theorem decodeUop_sound {u : BitVec 8} {i : Instr} (h : decodeUop u = .ok i) : i ∈ uopRows ∧ rowMatches u i = true := by
  unfold decodeUop at h
  split at h
  · rename_i j hj
    cases h
    exact ⟨List.mem_of_find?_eq_some hj, List.find?_some hj⟩
  · cases h

/-- Every mask keeps the STATE bits. -/
theorem uopMask_state {i : Instr} (hi : i ∈ uopRows) : (uopMask i).extractLsb' 3 5 = 0x1F#5 := by
  have key : ∀ j ∈ uopRows, (uopMask j).extractLsb' 3 5 = 0x1F#5 := by decide +kernel
  exact key i hi

/-- A word has the STATE of the row it matches. -/
theorem rowMatches_state {u : BitVec 8} {i : Instr} (hi : i ∈ uopRows) (h : rowMatches u i = true) :
    u.extractLsb' 3 5 = (uopCode i).extractLsb' 3 5 := by
  have h' : u &&& uopMask i = uopCode i := by simpa [rowMatches] using h
  have hm := uopMask_state hi
  rw [← h', BitVec.extractLsb'_and, hm]
  exact (BitVec.and_allOnes (x := u.extractLsb' 3 5)).symm

/-- Where a row reads CLS, the word it matches is its code. -/
theorem rowMatches_cls {u : BitVec 8} {i : Instr} (hm : uopMask i = 0xFF#8) (h : rowMatches u i = true) :
    u = uopCode i := by
  have h' : u &&& uopMask i = uopCode i := by simpa [rowMatches] using h
  rw [← h', hm]
  exact (BitVec.and_allOnes (x := u)).symm

@[simp] theorem uop_state (s : State) : (uop s).extractLsb' 3 5 = s.state := by
  unfold uop
  have h : ∀ (a : BitVec 5) (b : BitVec 3), (a ++ b).extractLsb' 3 5 = a := by decide +kernel
  exact h s.state s.cls

@[simp] theorem uop_cls (s : State) : (uop s).extractLsb' 0 3 = s.cls := by
  unfold uop
  have h : ∀ (a : BitVec 5) (b : BitVec 3), (a ++ b).extractLsb' 0 3 = b := by decide +kernel
  exact h s.state s.cls

/-- STATE when a row is selected. -/
theorem state_of_decode {s : State} {i : Instr} (h : decodeUop (uop s) = .ok i) :
    s.state = (uopCode i).extractLsb' 3 5 := by
  have := decodeUop_sound h
  rw [← uop_state s]
  exact rowMatches_state this.1 this.2

/-- CLS when a row that reads it is selected. -/
theorem cls_of_decode {s : State} {i : Instr} (hm : uopMask i = 0xFF#8) (h : decodeUop (uop s) = .ok i) :
    s.cls = (uopCode i).extractLsb' 0 3 := by
  have := decodeUop_sound h
  rw [← uop_cls s, rowMatches_cls hm this.2]

end Sys2Proof.Machine
end

