-- ==== Sys2Proof/Laws/Memory.lean ====
section
/-!
SUPPORT. The laws of BUF and of the record of written offsets: a write is read back, leaves every other byte alone and
keeps the canonical form.
-/
namespace Sys2Proof.Machine

theorem readByte_writeByte (m : Memory) (a : Nat) (b : Byte) (x : Nat) :
    readByte (writeByte m a b) x = if x = a then some b else readByte m x := by
  induction m with
  | nil => simp [writeByte, readByte, eq_comm]
  | cons c m ih =>
    unfold writeByte
    split
    · simp [readByte, eq_comm]
    · split
      · rename_i h
        subst h
        by_cases hx : x = c.1
        · simp [readByte, hx]
        · simp [readByte, hx, Ne.symm hx]
      · rename_i h1 h2
        by_cases hx : c.1 = x
        · have : x ≠ a := by omega
          simp [readByte, hx, this]
        · simp [readByte, hx, ih]

theorem readByte_writeByte_same (m : Memory) (a : Nat) (b : Byte) : readByte (writeByte m a b) a = some b := by
  simp [readByte_writeByte]

theorem readByte_writeByte_other (m : Memory) {a x : Nat} (b : Byte) (h : x ≠ a) :
    readByte (writeByte m a b) x = readByte m x := by
  simp [readByte_writeByte, h]

/-- Where a cell of a memory with one byte written comes from. -/
theorem mem_writeByte {m : Memory} {a : Nat} {b : Byte} {c : Host.Cell} (h : c ∈ writeByte m a b) :
    c = (a, b) ∨ c ∈ m := by
  induction m with
  | nil => simpa [writeByte] using h
  | cons d m ih =>
    unfold writeByte at h
    split at h
    · simpa using h
    · split at h
      · rcases List.mem_cons.1 h with h | h
        · exact .inl h
        · exact .inr (List.mem_cons_of_mem _ h)
      · rcases List.mem_cons.1 h with h | h
        · exact .inr (h ▸ List.mem_cons_self)
        · exact (ih h).imp id (List.mem_cons_of_mem _)

theorem writeByte_wf {m : Memory} (a : Nat) (b : Byte) (h : Memory.wf m) : Memory.wf (writeByte m a b) := by
  induction m with
  | nil => simp [writeByte, Memory.wf]
  | cons d m ih =>
    obtain ⟨hd, hm⟩ := List.pairwise_cons.1 h
    unfold writeByte
    split
    · rename_i hlt
      refine List.pairwise_cons.2 ⟨fun c hc => ?_, h⟩
      rcases List.mem_cons.1 hc with rfl | hc
      · exact hlt
      · exact Nat.lt_trans hlt (hd c hc)
    · split
      · rename_i heq
        exact List.pairwise_cons.2 ⟨fun c hc => heq ▸ hd c hc, hm⟩
      · rename_i h1 h2
        refine List.pairwise_cons.2 ⟨fun c hc => ?_, ih hm⟩
        rcases mem_writeByte hc with rfl | hc
        · show d.1 < a; omega
        · exact hd c hc

theorem writeBytes_wf {m : Memory} (a : Nat) (bs : List Byte) (h : Memory.wf m) : Memory.wf (writeBytes m a bs) := by
  induction bs generalizing m a with
  | nil => exact h
  | cons b bs ih => exact ih (a + 1) (writeByte_wf a b h)

/-- Every byte of a BUF after a host write (R209). -/
theorem readByte_writeBytes (m : Memory) (a : Nat) (bs : List Byte) (x : Nat) :
    readByte (writeBytes m a bs) x = if a ≤ x ∧ x < a + bs.length then bs[x - a]? else readByte m x := by
  induction bs generalizing m a with
  | nil =>
    simp [writeBytes]
  | cons b bs ih =>
    rw [writeBytes, ih, readByte_writeByte, List.length_cons]
    by_cases h1 : x = a
    · subst h1
      have h2 : ¬(x + 1 ≤ x ∧ x < x + 1 + bs.length) := by omega
      have h3 : x ≤ x ∧ x < x + (bs.length + 1) := by omega
      simp [h3]
    · by_cases h2 : a + 1 ≤ x ∧ x < a + 1 + bs.length
      · have h3 : a ≤ x ∧ x < a + (bs.length + 1) := by omega
        have h4 : x - a = (x - (a + 1)) + 1 := by omega
        rw [if_pos h2, if_pos h3, h4, List.getElem?_cons_succ]
      · have h3 : ¬(a ≤ x ∧ x < a + (bs.length + 1)) := by omega
        rw [if_neg h2, if_neg h1, if_neg h3]

theorem readBytes_length {m : Memory} {a n : Nat} {bs : List Byte} (h : readBytes m a n = some bs) : bs.length = n := by
  induction n generalizing a bs with
  | zero => simp [readBytes] at h; simp [← h]
  | succ n ih =>
    unfold readBytes at h
    split at h
    · rename_i b bs' hb hbs
      cases h
      simp [ih hbs]
    · cases h

/-- MemRead succeeds where every byte of it has been written. -/
theorem readBytes_isSome {m : Memory} {a n : Nat} (h : ∀ x, a ≤ x → x < a + n → (readByte m x).isSome = true) :
    ∃ bs, readBytes m a n = some bs := by
  induction n generalizing a with
  | zero => exact ⟨[], rfl⟩
  | succ n ih =>
    obtain ⟨b, hb⟩ := Option.isSome_iff_exists.1 (h a (Nat.le_refl a) (by omega))
    obtain ⟨bs, hbs⟩ := ih (a := a + 1) (fun x h1 h2 => h x (by omega) (by omega))
    exact ⟨b :: bs, by simp [readBytes, hb, hbs]⟩

/-- What MemRead returns from a BUF just written: the written bytes themselves. -/
theorem readBytes_of_readByte {m : Memory} {a n : Nat} {bs : List Byte} (hn : bs.length = n)
    (h : ∀ j, j < n → readByte m (a + j) = bs[j]?) : readBytes m a n = some bs := by
  induction n generalizing a bs with
  | zero => simp [readBytes, List.length_eq_zero_iff.1 hn]
  | succ n ih =>
    cases bs with
    | nil => simp at hn
    | cons b bs =>
      have h0 := h 0 (by omega)
      have hs : readBytes m (a + 1) n = some bs := by
        refine ih (by simpa using hn) (fun j hj => ?_)
        have := h (j + 1) (by omega)
        rw [show a + 1 + j = a + (j + 1) by omega, this, List.getElem?_cons_succ]
      simp at h0
      simp [readBytes, h0, hs]

theorem mem_markOffset {l : List Nat} {a x : Nat} : x ∈ markOffset l a ↔ x = a ∨ x ∈ l := by
  induction l with
  | nil => simp [markOffset]
  | cons c l ih =>
    unfold markOffset
    split
    · simp
    · split
      · rename_i h
        subst h
        simp
      · simp [ih]
        tauto

/-- The offsets counted as written after a host write (R253). -/
theorem mem_markOffsets {l : List Nat} {a n x : Nat} :
    x ∈ markOffsets l a n ↔ (a ≤ x ∧ x < a + n) ∨ x ∈ l := by
  induction n generalizing l a with
  | zero =>
    simp [markOffsets]
  | succ n ih =>
    rw [markOffsets, ih, mem_markOffset]
    constructor
    · rintro (h | h | h)
      · exact .inl (by omega)
      · exact .inl (by omega)
      · exact .inr h
    · rintro (h | h)
      · by_cases hx : x = a
        · exact .inr (.inl hx)
        · exact .inl (by omega)
      · exact .inr (.inr h)

theorem allWritten_iff {l : List Nat} {n : Nat} : allWritten l n = true ↔ ∀ a, a < n → a ∈ l := by
  simp [allWritten]

end Sys2Proof.Machine
end

