-- ==== Sys2Proof/Laws/State.lean ====
section
/-!
SUPPORT. One lemma per field per update, so that no later proof unfolds a record update.
-/
namespace Sys2Proof.Machine

/-! ### goto -/

@[simp] theorem goto_state (c : BitVec 5) (s : State) : (goto c s).state = c := rfl
@[simp] theorem goto_cls (c : BitVec 5) (s : State) : (goto c s).cls = s.cls := rfl
@[simp] theorem goto_pos (c : BitVec 5) (s : State) : (goto c s).pos = s.pos := rfl
@[simp] theorem goto_len (c : BitVec 5) (s : State) : (goto c s).len = s.len := rfl
@[simp] theorem goto_imei (c : BitVec 5) (s : State) : (goto c s).imei = s.imei := rfl
@[simp] theorem goto_flen (c : BitVec 5) (s : State) : (goto c s).flen = s.flen := rfl
@[simp] theorem goto_codec (c : BitVec 5) (s : State) : (goto c s).codec = s.codec := rfl
@[simp] theorem goto_nrec (c : BitVec 5) (s : State) : (goto c s).nrec = s.nrec := rfl
@[simp] theorem goto_nrec2 (c : BitVec 5) (s : State) : (goto c s).nrec2 = s.nrec2 := rfl
@[simp] theorem goto_crc (c : BitVec 5) (s : State) : (goto c s).crc = s.crc := rfl
@[simp] theorem goto_recDone (c : BitVec 5) (s : State) : (goto c s).recDone = s.recDone := rfl
@[simp] theorem goto_total (c : BitVec 5) (s : State) : (goto c s).total = s.total := rfl
@[simp] theorem goto_sumk (c : BitVec 5) (s : State) : (goto c s).sumk = s.sumk := rfl
@[simp] theorem goto_k (c : BitVec 5) (s : State) : (goto c s).k = s.k := rfl
@[simp] theorem goto_idx (c : BitVec 5) (s : State) : (goto c s).idx = s.idx := rfl
@[simp] theorem goto_id (c : BitVec 5) (s : State) : (goto c s).id = s.id := rfl
@[simp] theorem goto_n (c : BitVec 5) (s : State) : (goto c s).n = s.n := rfl
@[simp] theorem goto_err (c : BitVec 5) (s : State) : (goto c s).err = s.err := rfl
@[simp] theorem goto_errUop (c : BitVec 5) (s : State) : (goto c s).errUop = s.errUop := rfl
@[simp] theorem goto_errPos (c : BitVec 5) (s : State) : (goto c s).errPos = s.errPos := rfl
@[simp] theorem goto_cmm (c : BitVec 5) (s : State) : (goto c s).cmm = s.cmm := rfl
@[simp] theorem goto_irqEn (c : BitVec 5) (s : State) : (goto c s).irqEn = s.irqEn := rfl
@[simp] theorem goto_outq (c : BitVec 5) (s : State) : (goto c s).outq = s.outq := rfl
@[simp] theorem goto_buf (c : BitVec 5) (s : State) : (goto c s).buf = s.buf := rfl
@[simp] theorem goto_written (c : BitVec 5) (s : State) : (goto c s).written = s.written := rfl
@[simp] theorem goto_agenda (c : BitVec 5) (s : State) : (goto c s).agenda = s.agenda := rfl
@[simp] theorem goto_rdata (c : BitVec 5) (s : State) : (goto c s).rdata = s.rdata := rfl
@[simp] theorem goto_partialFrame (c : BitVec 5) (s : State) : (goto c s).partialFrame = s.partialFrame := rfl
@[simp] theorem goto_frames (c : BitVec 5) (s : State) : (goto c s).frames = s.frames := rfl

/-! ### gotoClass -/

@[simp] theorem gotoClass_state (c : BitVec 5) (w : BitVec 3) (s : State) : (gotoClass c w s).state = c := rfl
@[simp] theorem gotoClass_cls (c : BitVec 5) (w : BitVec 3) (s : State) : (gotoClass c w s).cls = w := rfl
@[simp] theorem gotoClass_pos (c : BitVec 5) (w : BitVec 3) (s : State) : (gotoClass c w s).pos = s.pos := rfl
@[simp] theorem gotoClass_len (c : BitVec 5) (w : BitVec 3) (s : State) : (gotoClass c w s).len = s.len := rfl
@[simp] theorem gotoClass_imei (c : BitVec 5) (w : BitVec 3) (s : State) : (gotoClass c w s).imei = s.imei := rfl
@[simp] theorem gotoClass_flen (c : BitVec 5) (w : BitVec 3) (s : State) : (gotoClass c w s).flen = s.flen := rfl
@[simp] theorem gotoClass_codec (c : BitVec 5) (w : BitVec 3) (s : State) : (gotoClass c w s).codec = s.codec := rfl
@[simp] theorem gotoClass_nrec (c : BitVec 5) (w : BitVec 3) (s : State) : (gotoClass c w s).nrec = s.nrec := rfl
@[simp] theorem gotoClass_nrec2 (c : BitVec 5) (w : BitVec 3) (s : State) : (gotoClass c w s).nrec2 = s.nrec2 := rfl
@[simp] theorem gotoClass_crc (c : BitVec 5) (w : BitVec 3) (s : State) : (gotoClass c w s).crc = s.crc := rfl
@[simp] theorem gotoClass_recDone (c : BitVec 5) (w : BitVec 3) (s : State) : (gotoClass c w s).recDone = s.recDone := rfl
@[simp] theorem gotoClass_total (c : BitVec 5) (w : BitVec 3) (s : State) : (gotoClass c w s).total = s.total := rfl
@[simp] theorem gotoClass_sumk (c : BitVec 5) (w : BitVec 3) (s : State) : (gotoClass c w s).sumk = s.sumk := rfl
@[simp] theorem gotoClass_k (c : BitVec 5) (w : BitVec 3) (s : State) : (gotoClass c w s).k = s.k := rfl
@[simp] theorem gotoClass_idx (c : BitVec 5) (w : BitVec 3) (s : State) : (gotoClass c w s).idx = s.idx := rfl
@[simp] theorem gotoClass_id (c : BitVec 5) (w : BitVec 3) (s : State) : (gotoClass c w s).id = s.id := rfl
@[simp] theorem gotoClass_n (c : BitVec 5) (w : BitVec 3) (s : State) : (gotoClass c w s).n = s.n := rfl
@[simp] theorem gotoClass_err (c : BitVec 5) (w : BitVec 3) (s : State) : (gotoClass c w s).err = s.err := rfl
@[simp] theorem gotoClass_errUop (c : BitVec 5) (w : BitVec 3) (s : State) : (gotoClass c w s).errUop = s.errUop := rfl
@[simp] theorem gotoClass_errPos (c : BitVec 5) (w : BitVec 3) (s : State) : (gotoClass c w s).errPos = s.errPos := rfl
@[simp] theorem gotoClass_cmm (c : BitVec 5) (w : BitVec 3) (s : State) : (gotoClass c w s).cmm = s.cmm := rfl
@[simp] theorem gotoClass_irqEn (c : BitVec 5) (w : BitVec 3) (s : State) : (gotoClass c w s).irqEn = s.irqEn := rfl
@[simp] theorem gotoClass_outq (c : BitVec 5) (w : BitVec 3) (s : State) : (gotoClass c w s).outq = s.outq := rfl
@[simp] theorem gotoClass_buf (c : BitVec 5) (w : BitVec 3) (s : State) : (gotoClass c w s).buf = s.buf := rfl
@[simp] theorem gotoClass_written (c : BitVec 5) (w : BitVec 3) (s : State) : (gotoClass c w s).written = s.written := rfl
@[simp] theorem gotoClass_agenda (c : BitVec 5) (w : BitVec 3) (s : State) : (gotoClass c w s).agenda = s.agenda := rfl
@[simp] theorem gotoClass_rdata (c : BitVec 5) (w : BitVec 3) (s : State) : (gotoClass c w s).rdata = s.rdata := rfl
@[simp] theorem gotoClass_partialFrame (c : BitVec 5) (w : BitVec 3) (s : State) : (gotoClass c w s).partialFrame = s.partialFrame := rfl
@[simp] theorem gotoClass_frames (c : BitVec 5) (w : BitVec 3) (s : State) : (gotoClass c w s).frames = s.frames := rfl

/-! ### advance -/

@[simp] theorem advance_state (m : Nat) (s : State) : (advance m s).state = s.state := rfl
@[simp] theorem advance_cls (m : Nat) (s : State) : (advance m s).cls = s.cls := rfl
@[simp] theorem advance_pos (m : Nat) (s : State) : (advance m s).pos = BitVec.ofNat 32 (s.pos.toNat + m) := rfl
@[simp] theorem advance_len (m : Nat) (s : State) : (advance m s).len = s.len := rfl
@[simp] theorem advance_imei (m : Nat) (s : State) : (advance m s).imei = s.imei := rfl
@[simp] theorem advance_flen (m : Nat) (s : State) : (advance m s).flen = s.flen := rfl
@[simp] theorem advance_codec (m : Nat) (s : State) : (advance m s).codec = s.codec := rfl
@[simp] theorem advance_nrec (m : Nat) (s : State) : (advance m s).nrec = s.nrec := rfl
@[simp] theorem advance_nrec2 (m : Nat) (s : State) : (advance m s).nrec2 = s.nrec2 := rfl
@[simp] theorem advance_crc (m : Nat) (s : State) : (advance m s).crc = s.crc := rfl
@[simp] theorem advance_recDone (m : Nat) (s : State) : (advance m s).recDone = s.recDone := rfl
@[simp] theorem advance_total (m : Nat) (s : State) : (advance m s).total = s.total := rfl
@[simp] theorem advance_sumk (m : Nat) (s : State) : (advance m s).sumk = s.sumk := rfl
@[simp] theorem advance_k (m : Nat) (s : State) : (advance m s).k = s.k := rfl
@[simp] theorem advance_idx (m : Nat) (s : State) : (advance m s).idx = s.idx := rfl
@[simp] theorem advance_id (m : Nat) (s : State) : (advance m s).id = s.id := rfl
@[simp] theorem advance_n (m : Nat) (s : State) : (advance m s).n = s.n := rfl
@[simp] theorem advance_err (m : Nat) (s : State) : (advance m s).err = s.err := rfl
@[simp] theorem advance_errUop (m : Nat) (s : State) : (advance m s).errUop = s.errUop := rfl
@[simp] theorem advance_errPos (m : Nat) (s : State) : (advance m s).errPos = s.errPos := rfl
@[simp] theorem advance_cmm (m : Nat) (s : State) : (advance m s).cmm = s.cmm := rfl
@[simp] theorem advance_irqEn (m : Nat) (s : State) : (advance m s).irqEn = s.irqEn := rfl
@[simp] theorem advance_outq (m : Nat) (s : State) : (advance m s).outq = s.outq := rfl
@[simp] theorem advance_buf (m : Nat) (s : State) : (advance m s).buf = s.buf := rfl
@[simp] theorem advance_written (m : Nat) (s : State) : (advance m s).written = s.written := rfl
@[simp] theorem advance_agenda (m : Nat) (s : State) : (advance m s).agenda = s.agenda := rfl
@[simp] theorem advance_rdata (m : Nat) (s : State) : (advance m s).rdata = s.rdata := rfl
@[simp] theorem advance_partialFrame (m : Nat) (s : State) : (advance m s).partialFrame = s.partialFrame := rfl
@[simp] theorem advance_frames (m : Nat) (s : State) : (advance m s).frames = s.frames := rfl

/-! ### emit -/

@[simp] theorem emit_state (ts : List Token) (s : State) : (emit ts s).state = s.state := rfl
@[simp] theorem emit_cls (ts : List Token) (s : State) : (emit ts s).cls = s.cls := rfl
@[simp] theorem emit_pos (ts : List Token) (s : State) : (emit ts s).pos = s.pos := rfl
@[simp] theorem emit_len (ts : List Token) (s : State) : (emit ts s).len = s.len := rfl
@[simp] theorem emit_imei (ts : List Token) (s : State) : (emit ts s).imei = s.imei := rfl
@[simp] theorem emit_flen (ts : List Token) (s : State) : (emit ts s).flen = s.flen := rfl
@[simp] theorem emit_codec (ts : List Token) (s : State) : (emit ts s).codec = s.codec := rfl
@[simp] theorem emit_nrec (ts : List Token) (s : State) : (emit ts s).nrec = s.nrec := rfl
@[simp] theorem emit_nrec2 (ts : List Token) (s : State) : (emit ts s).nrec2 = s.nrec2 := rfl
@[simp] theorem emit_crc (ts : List Token) (s : State) : (emit ts s).crc = s.crc := rfl
@[simp] theorem emit_recDone (ts : List Token) (s : State) : (emit ts s).recDone = s.recDone := rfl
@[simp] theorem emit_total (ts : List Token) (s : State) : (emit ts s).total = s.total := rfl
@[simp] theorem emit_sumk (ts : List Token) (s : State) : (emit ts s).sumk = s.sumk := rfl
@[simp] theorem emit_k (ts : List Token) (s : State) : (emit ts s).k = s.k := rfl
@[simp] theorem emit_idx (ts : List Token) (s : State) : (emit ts s).idx = s.idx := rfl
@[simp] theorem emit_id (ts : List Token) (s : State) : (emit ts s).id = s.id := rfl
@[simp] theorem emit_n (ts : List Token) (s : State) : (emit ts s).n = s.n := rfl
@[simp] theorem emit_err (ts : List Token) (s : State) : (emit ts s).err = s.err := rfl
@[simp] theorem emit_errUop (ts : List Token) (s : State) : (emit ts s).errUop = s.errUop := rfl
@[simp] theorem emit_errPos (ts : List Token) (s : State) : (emit ts s).errPos = s.errPos := rfl
@[simp] theorem emit_cmm (ts : List Token) (s : State) : (emit ts s).cmm = s.cmm := rfl
@[simp] theorem emit_irqEn (ts : List Token) (s : State) : (emit ts s).irqEn = s.irqEn := rfl
@[simp] theorem emit_outq (ts : List Token) (s : State) : (emit ts s).outq = s.outq ++ ts := rfl
@[simp] theorem emit_buf (ts : List Token) (s : State) : (emit ts s).buf = s.buf := rfl
@[simp] theorem emit_written (ts : List Token) (s : State) : (emit ts s).written = s.written := rfl
@[simp] theorem emit_agenda (ts : List Token) (s : State) : (emit ts s).agenda = s.agenda := rfl
@[simp] theorem emit_rdata (ts : List Token) (s : State) : (emit ts s).rdata = s.rdata := rfl
@[simp] theorem emit_partialFrame (ts : List Token) (s : State) : (emit ts s).partialFrame = s.partialFrame := rfl
@[simp] theorem emit_frames (ts : List Token) (s : State) : (emit ts s).frames = s.frames := rfl

/-! ### errorEntry -/

@[simp] theorem errorEntry_state (u : BitVec 8) (e : ErrKind) (s : State) : (errorEntry u e s).state = StateCode.error := rfl
@[simp] theorem errorEntry_cls (u : BitVec 8) (e : ErrKind) (s : State) : (errorEntry u e s).cls = s.cls := rfl
@[simp] theorem errorEntry_pos (u : BitVec 8) (e : ErrKind) (s : State) : (errorEntry u e s).pos = s.pos := rfl
@[simp] theorem errorEntry_len (u : BitVec 8) (e : ErrKind) (s : State) : (errorEntry u e s).len = s.len := rfl
@[simp] theorem errorEntry_imei (u : BitVec 8) (e : ErrKind) (s : State) : (errorEntry u e s).imei = s.imei := rfl
@[simp] theorem errorEntry_flen (u : BitVec 8) (e : ErrKind) (s : State) : (errorEntry u e s).flen = s.flen := rfl
@[simp] theorem errorEntry_codec (u : BitVec 8) (e : ErrKind) (s : State) : (errorEntry u e s).codec = s.codec := rfl
@[simp] theorem errorEntry_nrec (u : BitVec 8) (e : ErrKind) (s : State) : (errorEntry u e s).nrec = s.nrec := rfl
@[simp] theorem errorEntry_nrec2 (u : BitVec 8) (e : ErrKind) (s : State) : (errorEntry u e s).nrec2 = s.nrec2 := rfl
@[simp] theorem errorEntry_crc (u : BitVec 8) (e : ErrKind) (s : State) : (errorEntry u e s).crc = s.crc := rfl
@[simp] theorem errorEntry_recDone (u : BitVec 8) (e : ErrKind) (s : State) : (errorEntry u e s).recDone = s.recDone := rfl
@[simp] theorem errorEntry_total (u : BitVec 8) (e : ErrKind) (s : State) : (errorEntry u e s).total = s.total := rfl
@[simp] theorem errorEntry_sumk (u : BitVec 8) (e : ErrKind) (s : State) : (errorEntry u e s).sumk = s.sumk := rfl
@[simp] theorem errorEntry_k (u : BitVec 8) (e : ErrKind) (s : State) : (errorEntry u e s).k = s.k := rfl
@[simp] theorem errorEntry_idx (u : BitVec 8) (e : ErrKind) (s : State) : (errorEntry u e s).idx = s.idx := rfl
@[simp] theorem errorEntry_id (u : BitVec 8) (e : ErrKind) (s : State) : (errorEntry u e s).id = s.id := rfl
@[simp] theorem errorEntry_n (u : BitVec 8) (e : ErrKind) (s : State) : (errorEntry u e s).n = s.n := rfl
@[simp] theorem errorEntry_err (u : BitVec 8) (e : ErrKind) (s : State) : (errorEntry u e s).err = errCode e := rfl
@[simp] theorem errorEntry_errUop (u : BitVec 8) (e : ErrKind) (s : State) : (errorEntry u e s).errUop = u := rfl
@[simp] theorem errorEntry_errPos (u : BitVec 8) (e : ErrKind) (s : State) : (errorEntry u e s).errPos = s.pos := rfl
@[simp] theorem errorEntry_cmm (u : BitVec 8) (e : ErrKind) (s : State) : (errorEntry u e s).cmm = s.cmm := rfl
@[simp] theorem errorEntry_irqEn (u : BitVec 8) (e : ErrKind) (s : State) : (errorEntry u e s).irqEn = s.irqEn := rfl
@[simp] theorem errorEntry_outq (u : BitVec 8) (e : ErrKind) (s : State) : (errorEntry u e s).outq = s.outq ++ [endErrToken s.recDone s.pos u (errCode e)] := rfl
@[simp] theorem errorEntry_buf (u : BitVec 8) (e : ErrKind) (s : State) : (errorEntry u e s).buf = s.buf := rfl
@[simp] theorem errorEntry_written (u : BitVec 8) (e : ErrKind) (s : State) : (errorEntry u e s).written = s.written := rfl
@[simp] theorem errorEntry_agenda (u : BitVec 8) (e : ErrKind) (s : State) : (errorEntry u e s).agenda = s.agenda := rfl
@[simp] theorem errorEntry_rdata (u : BitVec 8) (e : ErrKind) (s : State) : (errorEntry u e s).rdata = s.rdata := rfl
@[simp] theorem errorEntry_partialFrame (u : BitVec 8) (e : ErrKind) (s : State) : (errorEntry u e s).partialFrame = s.partialFrame := rfl
@[simp] theorem errorEntry_frames (u : BitVec 8) (e : ErrKind) (s : State) : (errorEntry u e s).frames = s.frames := rfl

/-! ### clearDecode -/

@[simp] theorem clearDecode_state (c : BitVec 5) (s : State) : (clearDecode c s).state = c := rfl
@[simp] theorem clearDecode_cls (c : BitVec 5) (s : State) : (clearDecode c s).cls = 0#3 := rfl
@[simp] theorem clearDecode_pos (c : BitVec 5) (s : State) : (clearDecode c s).pos = 0#32 := rfl
@[simp] theorem clearDecode_len (c : BitVec 5) (s : State) : (clearDecode c s).len = s.len := rfl
@[simp] theorem clearDecode_imei (c : BitVec 5) (s : State) : (clearDecode c s).imei = Vector.replicate 15 0#8 := rfl
@[simp] theorem clearDecode_flen (c : BitVec 5) (s : State) : (clearDecode c s).flen = 0#32 := rfl
@[simp] theorem clearDecode_codec (c : BitVec 5) (s : State) : (clearDecode c s).codec = 0#8 := rfl
@[simp] theorem clearDecode_nrec (c : BitVec 5) (s : State) : (clearDecode c s).nrec = 0#8 := rfl
@[simp] theorem clearDecode_nrec2 (c : BitVec 5) (s : State) : (clearDecode c s).nrec2 = 0#8 := rfl
@[simp] theorem clearDecode_crc (c : BitVec 5) (s : State) : (clearDecode c s).crc = 0#32 := rfl
@[simp] theorem clearDecode_recDone (c : BitVec 5) (s : State) : (clearDecode c s).recDone = 0#8 := rfl
@[simp] theorem clearDecode_total (c : BitVec 5) (s : State) : (clearDecode c s).total = 0#16 := rfl
@[simp] theorem clearDecode_sumk (c : BitVec 5) (s : State) : (clearDecode c s).sumk = 0#19 := rfl
@[simp] theorem clearDecode_k (c : BitVec 5) (s : State) : (clearDecode c s).k = 0#16 := rfl
@[simp] theorem clearDecode_idx (c : BitVec 5) (s : State) : (clearDecode c s).idx = 0#16 := rfl
@[simp] theorem clearDecode_id (c : BitVec 5) (s : State) : (clearDecode c s).id = 0#16 := rfl
@[simp] theorem clearDecode_n (c : BitVec 5) (s : State) : (clearDecode c s).n = 0#16 := rfl
@[simp] theorem clearDecode_err (c : BitVec 5) (s : State) : (clearDecode c s).err = 0#3 := rfl
@[simp] theorem clearDecode_errUop (c : BitVec 5) (s : State) : (clearDecode c s).errUop = 0#8 := rfl
@[simp] theorem clearDecode_errPos (c : BitVec 5) (s : State) : (clearDecode c s).errPos = 0#32 := rfl
@[simp] theorem clearDecode_cmm (c : BitVec 5) (s : State) : (clearDecode c s).cmm = false := rfl
@[simp] theorem clearDecode_irqEn (c : BitVec 5) (s : State) : (clearDecode c s).irqEn = s.irqEn := rfl
@[simp] theorem clearDecode_outq (c : BitVec 5) (s : State) : (clearDecode c s).outq = s.outq := rfl
@[simp] theorem clearDecode_buf (c : BitVec 5) (s : State) : (clearDecode c s).buf = s.buf := rfl
@[simp] theorem clearDecode_written (c : BitVec 5) (s : State) : (clearDecode c s).written = s.written := rfl
@[simp] theorem clearDecode_agenda (c : BitVec 5) (s : State) : (clearDecode c s).agenda = s.agenda := rfl
@[simp] theorem clearDecode_rdata (c : BitVec 5) (s : State) : (clearDecode c s).rdata = s.rdata := rfl
@[simp] theorem clearDecode_partialFrame (c : BitVec 5) (s : State) : (clearDecode c s).partialFrame = s.partialFrame := rfl
@[simp] theorem clearDecode_frames (c : BitVec 5) (s : State) : (clearDecode c s).frames = s.frames := rfl

/-! ### setIrqEn -/

@[simp] theorem setIrqEn_state (v : Word) (s : State) : (setIrqEn v s).state = s.state := rfl
@[simp] theorem setIrqEn_cls (v : Word) (s : State) : (setIrqEn v s).cls = s.cls := rfl
@[simp] theorem setIrqEn_pos (v : Word) (s : State) : (setIrqEn v s).pos = s.pos := rfl
@[simp] theorem setIrqEn_len (v : Word) (s : State) : (setIrqEn v s).len = s.len := rfl
@[simp] theorem setIrqEn_imei (v : Word) (s : State) : (setIrqEn v s).imei = s.imei := rfl
@[simp] theorem setIrqEn_flen (v : Word) (s : State) : (setIrqEn v s).flen = s.flen := rfl
@[simp] theorem setIrqEn_codec (v : Word) (s : State) : (setIrqEn v s).codec = s.codec := rfl
@[simp] theorem setIrqEn_nrec (v : Word) (s : State) : (setIrqEn v s).nrec = s.nrec := rfl
@[simp] theorem setIrqEn_nrec2 (v : Word) (s : State) : (setIrqEn v s).nrec2 = s.nrec2 := rfl
@[simp] theorem setIrqEn_crc (v : Word) (s : State) : (setIrqEn v s).crc = s.crc := rfl
@[simp] theorem setIrqEn_recDone (v : Word) (s : State) : (setIrqEn v s).recDone = s.recDone := rfl
@[simp] theorem setIrqEn_total (v : Word) (s : State) : (setIrqEn v s).total = s.total := rfl
@[simp] theorem setIrqEn_sumk (v : Word) (s : State) : (setIrqEn v s).sumk = s.sumk := rfl
@[simp] theorem setIrqEn_k (v : Word) (s : State) : (setIrqEn v s).k = s.k := rfl
@[simp] theorem setIrqEn_idx (v : Word) (s : State) : (setIrqEn v s).idx = s.idx := rfl
@[simp] theorem setIrqEn_id (v : Word) (s : State) : (setIrqEn v s).id = s.id := rfl
@[simp] theorem setIrqEn_n (v : Word) (s : State) : (setIrqEn v s).n = s.n := rfl
@[simp] theorem setIrqEn_err (v : Word) (s : State) : (setIrqEn v s).err = s.err := rfl
@[simp] theorem setIrqEn_errUop (v : Word) (s : State) : (setIrqEn v s).errUop = s.errUop := rfl
@[simp] theorem setIrqEn_errPos (v : Word) (s : State) : (setIrqEn v s).errPos = s.errPos := rfl
@[simp] theorem setIrqEn_cmm (v : Word) (s : State) : (setIrqEn v s).cmm = s.cmm := rfl
@[simp] theorem setIrqEn_irqEn (v : Word) (s : State) : (setIrqEn v s).irqEn = v.getLsbD 2 := rfl
@[simp] theorem setIrqEn_outq (v : Word) (s : State) : (setIrqEn v s).outq = s.outq := rfl
@[simp] theorem setIrqEn_buf (v : Word) (s : State) : (setIrqEn v s).buf = s.buf := rfl
@[simp] theorem setIrqEn_written (v : Word) (s : State) : (setIrqEn v s).written = s.written := rfl
@[simp] theorem setIrqEn_agenda (v : Word) (s : State) : (setIrqEn v s).agenda = s.agenda := rfl
@[simp] theorem setIrqEn_rdata (v : Word) (s : State) : (setIrqEn v s).rdata = s.rdata := rfl
@[simp] theorem setIrqEn_partialFrame (v : Word) (s : State) : (setIrqEn v s).partialFrame = s.partialFrame := rfl
@[simp] theorem setIrqEn_frames (v : Word) (s : State) : (setIrqEn v s).frames = s.frames := rfl

/-! ### endRecord -/

@[simp] theorem endRecord_state (sk : Nat) (s : State) : (endRecord sk s).state = (if s.recDone.toNat + 1 = s.nrec.toNat then StateCode.ftrNrec2 else StateCode.recTs) := rfl
@[simp] theorem endRecord_cls (sk : Nat) (s : State) : (endRecord sk s).cls = s.cls := rfl
@[simp] theorem endRecord_pos (sk : Nat) (s : State) : (endRecord sk s).pos = s.pos := rfl
@[simp] theorem endRecord_len (sk : Nat) (s : State) : (endRecord sk s).len = s.len := rfl
@[simp] theorem endRecord_imei (sk : Nat) (s : State) : (endRecord sk s).imei = s.imei := rfl
@[simp] theorem endRecord_flen (sk : Nat) (s : State) : (endRecord sk s).flen = s.flen := rfl
@[simp] theorem endRecord_codec (sk : Nat) (s : State) : (endRecord sk s).codec = s.codec := rfl
@[simp] theorem endRecord_nrec (sk : Nat) (s : State) : (endRecord sk s).nrec = s.nrec := rfl
@[simp] theorem endRecord_nrec2 (sk : Nat) (s : State) : (endRecord sk s).nrec2 = s.nrec2 := rfl
@[simp] theorem endRecord_crc (sk : Nat) (s : State) : (endRecord sk s).crc = s.crc := rfl
@[simp] theorem endRecord_recDone (sk : Nat) (s : State) : (endRecord sk s).recDone = BitVec.ofNat 8 (s.recDone.toNat + 1) := rfl
@[simp] theorem endRecord_total (sk : Nat) (s : State) : (endRecord sk s).total = s.total := rfl
@[simp] theorem endRecord_sumk (sk : Nat) (s : State) : (endRecord sk s).sumk = s.sumk := rfl
@[simp] theorem endRecord_k (sk : Nat) (s : State) : (endRecord sk s).k = s.k := rfl
@[simp] theorem endRecord_idx (sk : Nat) (s : State) : (endRecord sk s).idx = s.idx := rfl
@[simp] theorem endRecord_id (sk : Nat) (s : State) : (endRecord sk s).id = s.id := rfl
@[simp] theorem endRecord_n (sk : Nat) (s : State) : (endRecord sk s).n = s.n := rfl
@[simp] theorem endRecord_err (sk : Nat) (s : State) : (endRecord sk s).err = s.err := rfl
@[simp] theorem endRecord_errUop (sk : Nat) (s : State) : (endRecord sk s).errUop = s.errUop := rfl
@[simp] theorem endRecord_errPos (sk : Nat) (s : State) : (endRecord sk s).errPos = s.errPos := rfl
@[simp] theorem endRecord_cmm (sk : Nat) (s : State) : (endRecord sk s).cmm = cmmAfter s.cmm sk s.total := rfl
@[simp] theorem endRecord_irqEn (sk : Nat) (s : State) : (endRecord sk s).irqEn = s.irqEn := rfl
@[simp] theorem endRecord_outq (sk : Nat) (s : State) : (endRecord sk s).outq = s.outq := rfl
@[simp] theorem endRecord_buf (sk : Nat) (s : State) : (endRecord sk s).buf = s.buf := rfl
@[simp] theorem endRecord_written (sk : Nat) (s : State) : (endRecord sk s).written = s.written := rfl
@[simp] theorem endRecord_agenda (sk : Nat) (s : State) : (endRecord sk s).agenda = s.agenda := rfl
@[simp] theorem endRecord_rdata (sk : Nat) (s : State) : (endRecord sk s).rdata = s.rdata := rfl
@[simp] theorem endRecord_partialFrame (sk : Nat) (s : State) : (endRecord sk s).partialFrame = s.partialFrame := rfl
@[simp] theorem endRecord_frames (sk : Nat) (s : State) : (endRecord sk s).frames = s.frames := rfl

/-! ### endGroup and endEntry: the fields no branch changes -/

@[simp] theorem endGroup_pos (c : BitVec 3) (sk : Nat) (s : State) : (endGroup c sk s).pos = s.pos := by
  unfold endGroup; split <;> rfl
@[simp] theorem endGroup_len (c : BitVec 3) (sk : Nat) (s : State) : (endGroup c sk s).len = s.len := by
  unfold endGroup; split <;> rfl
@[simp] theorem endGroup_imei (c : BitVec 3) (sk : Nat) (s : State) : (endGroup c sk s).imei = s.imei := by
  unfold endGroup; split <;> rfl
@[simp] theorem endGroup_flen (c : BitVec 3) (sk : Nat) (s : State) : (endGroup c sk s).flen = s.flen := by
  unfold endGroup; split <;> rfl
@[simp] theorem endGroup_codec (c : BitVec 3) (sk : Nat) (s : State) : (endGroup c sk s).codec = s.codec := by
  unfold endGroup; split <;> rfl
@[simp] theorem endGroup_nrec (c : BitVec 3) (sk : Nat) (s : State) : (endGroup c sk s).nrec = s.nrec := by
  unfold endGroup; split <;> rfl
@[simp] theorem endGroup_nrec2 (c : BitVec 3) (sk : Nat) (s : State) : (endGroup c sk s).nrec2 = s.nrec2 := by
  unfold endGroup; split <;> rfl
@[simp] theorem endGroup_crc (c : BitVec 3) (sk : Nat) (s : State) : (endGroup c sk s).crc = s.crc := by
  unfold endGroup; split <;> rfl
@[simp] theorem endGroup_total (c : BitVec 3) (sk : Nat) (s : State) : (endGroup c sk s).total = s.total := by
  unfold endGroup; split <;> rfl
@[simp] theorem endGroup_sumk (c : BitVec 3) (sk : Nat) (s : State) : (endGroup c sk s).sumk = s.sumk := by
  unfold endGroup; split <;> rfl
@[simp] theorem endGroup_k (c : BitVec 3) (sk : Nat) (s : State) : (endGroup c sk s).k = s.k := by
  unfold endGroup; split <;> rfl
@[simp] theorem endGroup_idx (c : BitVec 3) (sk : Nat) (s : State) : (endGroup c sk s).idx = s.idx := by
  unfold endGroup; split <;> rfl
@[simp] theorem endGroup_id (c : BitVec 3) (sk : Nat) (s : State) : (endGroup c sk s).id = s.id := by
  unfold endGroup; split <;> rfl
@[simp] theorem endGroup_n (c : BitVec 3) (sk : Nat) (s : State) : (endGroup c sk s).n = s.n := by
  unfold endGroup; split <;> rfl
@[simp] theorem endGroup_err (c : BitVec 3) (sk : Nat) (s : State) : (endGroup c sk s).err = s.err := by
  unfold endGroup; split <;> rfl
@[simp] theorem endGroup_errUop (c : BitVec 3) (sk : Nat) (s : State) : (endGroup c sk s).errUop = s.errUop := by
  unfold endGroup; split <;> rfl
@[simp] theorem endGroup_errPos (c : BitVec 3) (sk : Nat) (s : State) : (endGroup c sk s).errPos = s.errPos := by
  unfold endGroup; split <;> rfl
@[simp] theorem endGroup_irqEn (c : BitVec 3) (sk : Nat) (s : State) : (endGroup c sk s).irqEn = s.irqEn := by
  unfold endGroup; split <;> rfl
@[simp] theorem endGroup_outq (c : BitVec 3) (sk : Nat) (s : State) : (endGroup c sk s).outq = s.outq := by
  unfold endGroup; split <;> rfl
@[simp] theorem endGroup_buf (c : BitVec 3) (sk : Nat) (s : State) : (endGroup c sk s).buf = s.buf := by
  unfold endGroup; split <;> rfl
@[simp] theorem endGroup_written (c : BitVec 3) (sk : Nat) (s : State) : (endGroup c sk s).written = s.written := by
  unfold endGroup; split <;> rfl
@[simp] theorem endGroup_agenda (c : BitVec 3) (sk : Nat) (s : State) : (endGroup c sk s).agenda = s.agenda := by
  unfold endGroup; split <;> rfl
@[simp] theorem endGroup_rdata (c : BitVec 3) (sk : Nat) (s : State) : (endGroup c sk s).rdata = s.rdata := by
  unfold endGroup; split <;> rfl
@[simp] theorem endGroup_partialFrame (c : BitVec 3) (sk : Nat) (s : State) : (endGroup c sk s).partialFrame = s.partialFrame := by
  unfold endGroup; split <;> rfl
@[simp] theorem endGroup_frames (c : BitVec 3) (sk : Nat) (s : State) : (endGroup c sk s).frames = s.frames := by
  unfold endGroup; split <;> rfl
@[simp] theorem endEntry_pos (c : BitVec 3) (s : State) : (endEntry c s).pos = s.pos := by
  unfold endEntry; split <;> simp
@[simp] theorem endEntry_len (c : BitVec 3) (s : State) : (endEntry c s).len = s.len := by
  unfold endEntry; split <;> simp
@[simp] theorem endEntry_imei (c : BitVec 3) (s : State) : (endEntry c s).imei = s.imei := by
  unfold endEntry; split <;> simp
@[simp] theorem endEntry_flen (c : BitVec 3) (s : State) : (endEntry c s).flen = s.flen := by
  unfold endEntry; split <;> simp
@[simp] theorem endEntry_codec (c : BitVec 3) (s : State) : (endEntry c s).codec = s.codec := by
  unfold endEntry; split <;> simp
@[simp] theorem endEntry_nrec (c : BitVec 3) (s : State) : (endEntry c s).nrec = s.nrec := by
  unfold endEntry; split <;> simp
@[simp] theorem endEntry_nrec2 (c : BitVec 3) (s : State) : (endEntry c s).nrec2 = s.nrec2 := by
  unfold endEntry; split <;> simp
@[simp] theorem endEntry_crc (c : BitVec 3) (s : State) : (endEntry c s).crc = s.crc := by
  unfold endEntry; split <;> simp
@[simp] theorem endEntry_total (c : BitVec 3) (s : State) : (endEntry c s).total = s.total := by
  unfold endEntry; split <;> simp
@[simp] theorem endEntry_sumk (c : BitVec 3) (s : State) : (endEntry c s).sumk = s.sumk := by
  unfold endEntry; split <;> simp
@[simp] theorem endEntry_k (c : BitVec 3) (s : State) : (endEntry c s).k = s.k := by
  unfold endEntry; split <;> simp
@[simp] theorem endEntry_id (c : BitVec 3) (s : State) : (endEntry c s).id = s.id := by
  unfold endEntry; split <;> simp
@[simp] theorem endEntry_n (c : BitVec 3) (s : State) : (endEntry c s).n = s.n := by
  unfold endEntry; split <;> simp
@[simp] theorem endEntry_err (c : BitVec 3) (s : State) : (endEntry c s).err = s.err := by
  unfold endEntry; split <;> simp
@[simp] theorem endEntry_errUop (c : BitVec 3) (s : State) : (endEntry c s).errUop = s.errUop := by
  unfold endEntry; split <;> simp
@[simp] theorem endEntry_errPos (c : BitVec 3) (s : State) : (endEntry c s).errPos = s.errPos := by
  unfold endEntry; split <;> simp
@[simp] theorem endEntry_irqEn (c : BitVec 3) (s : State) : (endEntry c s).irqEn = s.irqEn := by
  unfold endEntry; split <;> simp
@[simp] theorem endEntry_outq (c : BitVec 3) (s : State) : (endEntry c s).outq = s.outq := by
  unfold endEntry; split <;> simp
@[simp] theorem endEntry_buf (c : BitVec 3) (s : State) : (endEntry c s).buf = s.buf := by
  unfold endEntry; split <;> simp
@[simp] theorem endEntry_written (c : BitVec 3) (s : State) : (endEntry c s).written = s.written := by
  unfold endEntry; split <;> simp
@[simp] theorem endEntry_agenda (c : BitVec 3) (s : State) : (endEntry c s).agenda = s.agenda := by
  unfold endEntry; split <;> simp
@[simp] theorem endEntry_rdata (c : BitVec 3) (s : State) : (endEntry c s).rdata = s.rdata := by
  unfold endEntry; split <;> simp
@[simp] theorem endEntry_partialFrame (c : BitVec 3) (s : State) : (endEntry c s).partialFrame = s.partialFrame := by
  unfold endEntry; split <;> simp
@[simp] theorem endEntry_frames (c : BitVec 3) (s : State) : (endEntry c s).frames = s.frames := by
  unfold endEntry; split <;> simp

end Sys2Proof.Machine
end

