-- ==== Sys2Proof/Laws/Ops.lean ====
section
/-!
SUPPORT. One lemma per shared operation, which says once everything it can do; later proofs cite it instead of
unfolding the operation.
-/
namespace Sys2Proof.Machine

theorem hasRoom_iff {t : Nat} {s : State} : hasRoom t s = true ↔ s.outq.length + t ≤ Config.outDepth := by
  simp [hasRoom]

/-- OUT_DEPTH ≥ 2 lets an empty queue take the tokens of any step (R96). -/
theorem hasRoom_of_empty {t : Nat} {s : State} (h : s.outq = []) (ht : t ≤ 2) : hasRoom t s = true := by
  simp [hasRoom_iff, h, Config.outDepth]
  omega

theorem maxLen_ge : 32 ≤ Config.maxLen := Nat.le_add_left ..

theorem maxLen_lt : Config.maxLen < 2 ^ 32 := by
  have : Config.maxLenExtra % (2 ^ 32 - 32) < 2 ^ 32 - 32 := Nat.mod_lt _ (by decide)
  unfold Config.maxLen
  omega

/-- raiseError enters the error or holds. -/
theorem raiseError_cases (i : Instr) (e : ErrKind) (s : State) :
    (hasRoom 1 s = true ∧ raiseError i e s = .next (errorEntry (uopCode i) e s)) ∨
    (hasRoom 1 s = false ∧ raiseError i e s = .next s) := by
  unfold raiseError
  cases h : hasRoom 1 s <;> simp

/-- A ready step reads its bytes and does the rest with POS advanced. -/
theorem extract_ready {i : Instr} {s : State} {bs : List Byte} (body : List Byte → State → Effect) (h : Ready i s bs) :
    extract i body s = finish i s (body bs (advance (readWidth i s) s)) := by
  unfold extract
  rw [if_pos h.inBounds, if_pos h.room, h.bytes]

/-- Fewer bytes left than the step reads. -/
theorem extract_truncated {i : Instr} {s : State} (body : List Byte → State → Effect)
    (h : s.len.toNat < s.pos.toNat + readWidth i s) : extract i body s = raiseError i .truncatedFrame s := by
  unfold extract
  rw [if_neg (by omega)]

/-- No room for the tokens of a step whose bytes are there. -/
theorem extract_hold {i : Instr} {s : State} (body : List Byte → State → Effect)
    (h : s.pos.toNat + readWidth i s ≤ s.len.toNat) (hr : hasRoom (successTokens i) s = false) :
    extract i body s = .next s := by
  unfold extract
  rw [if_pos h, hr]
  rfl

/-- Everything a reading step can do when it answers a next state. -/
theorem extract_next {i : Instr} {s s' : State} {body : List Byte → State → Effect} (h : extract i body s = .next s') :
    s' = s ∨
    (s.len.toNat < s.pos.toNat + readWidth i s ∧ hasRoom 1 s = true ∧
      s' = errorEntry (uopCode i) .truncatedFrame s) ∨
    ∃ bs, Ready i s bs ∧ finish i s (body bs (advance (readWidth i s) s)) = .next s' := by
  by_cases hb : s.pos.toNat + readWidth i s ≤ s.len.toNat
  · cases hr : hasRoom (successTokens i) s with
    | false =>
      rw [extract_hold body hb hr] at h
      cases h
      exact .inl rfl
    | true =>
      cases hm : readBytes s.buf s.pos.toNat (readWidth i s) with
      | none =>
        unfold extract at h
        simp [hb, hr, hm] at h
      | some bs =>
        have ready : Ready i s bs := ⟨hb, hr, hm⟩
        rw [extract_ready body ready] at h
        exact .inr (.inr ⟨bs, ready, h⟩)
  · have hlt : s.len.toNat < s.pos.toNat + readWidth i s := by omega
    rw [extract_truncated body hlt] at h
    rcases raiseError_cases i .truncatedFrame s with ⟨hr, he⟩ | ⟨_, he⟩ <;> rw [he] at h <;> cases h
    · exact .inr (.inl ⟨hlt, hr, rfl⟩)
    · exact .inl rfl

/-- A step that commits answers its tokens and registers. -/
@[simp] theorem finish_commit (i : Instr) (s s' : State) (ts : List Token) :
    finish i s (.commit ts s') = .next (emit ts s') := rfl

@[simp] theorem finish_raise (i : Instr) (s : State) (e : ErrKind) : finish i s (.raise e) = raiseError i e s := rfl

/-- A ready step's POS: the addition does not wrap. -/
theorem advance_toNat {i : Instr} {s : State} {bs : List Byte} (h : Ready i s bs) :
    (advance (readWidth i s) s).pos.toNat = s.pos.toNat + readWidth i s := by
  have := h.inBounds
  have := s.len.isLt
  simp [advance]
  omega

theorem advance_eq (m : Nat) (s : State) : advance m s = { s with pos := s.pos + BitVec.ofNat 32 m } := by
  have : BitVec.ofNat 32 (s.pos.toNat + m) = s.pos + BitVec.ofNat 32 m := by
    apply BitVec.eq_of_toNat_eq
    simp [BitVec.toNat_add]
  simp [advance, this]

/-- The bytes a ready step reads are as many as its width. -/
theorem ready_length {i : Instr} {s : State} {bs : List Byte} (h : Ready i s bs) : bs.length = readWidth i s :=
  readBytes_length h.bytes

/-- END_GROUP: the next class, or the end of the record. -/
theorem endGroup_cases (c : BitVec 3) (sk : Nat) (s : State) :
    (c.toNat < 4 ∧ endGroup c sk s = gotoClass StateCode.grpCnt (c + 1#3) s) ∨
    (4 ≤ c.toNat ∧ endGroup c sk s = endRecord sk s) := by
  unfold endGroup
  by_cases h : c.toNat < 4
  · exact .inl ⟨h, if_pos h⟩
  · exact .inr ⟨by omega, if_neg h⟩

/-- END_ENTRY: the next entry of the class, or the end of the group. -/
theorem endEntry_cases (c : BitVec 3) (s : State) :
    (s.idx.toNat + 1 = s.k.toNat ∧
      endEntry c s = endGroup c s.sumk.toNat { s with idx := BitVec.ofNat 16 (s.idx.toNat + 1) }) ∨
    (s.idx.toNat + 1 ≠ s.k.toNat ∧
      endEntry c s = gotoClass StateCode.entId c { s with idx := BitVec.ofNat 16 (s.idx.toNat + 1) }) := by
  unfold endEntry
  by_cases h : s.idx.toNat + 1 = s.k.toNat
  · exact .inl ⟨h, if_pos h⟩
  · exact .inr ⟨h, if_neg h⟩

/-! ### Big-endian fields (R64) -/

theorem be_append (bs : List Byte) (b : Byte) : be (bs ++ [b]) = be bs * 256 + b.toNat := by
  simp [be]

theorem be_lt (bs : List Byte) : be bs < 256 ^ bs.length := by
  induction bs using List.reverseRecOn with
  | nil => simp [be]
  | append_singleton bs b ih =>
    rw [be_append, List.length_append, List.length_singleton, Nat.pow_succ]
    have := b.isLt
    omega

/-- One more byte is appended below what is already read. -/
theorem field_snoc (w : Nat) (bs : List Byte) (b : Byte) (h : bs.length * 8 = w) :
    field (w + 8) (bs ++ [b]) = field w bs ++ b := by
  apply BitVec.eq_of_toNat_eq
  have hlt := be_lt bs
  have hb := b.isLt
  have hw : (256 : Nat) ^ bs.length = 2 ^ w := by
    rw [← h, Nat.mul_comm, Nat.pow_mul]
  rw [hw] at hlt
  have h1 : be bs * 256 + b.toNat < 2 ^ (w + 8) := by
    rw [Nat.pow_add]
    omega
  rw [BitVec.toNat_append, field, field, BitVec.toNat_ofNat, BitVec.toNat_ofNat, be_append, Nat.mod_eq_of_lt h1,
    Nat.mod_eq_of_lt hlt, ← Nat.shiftLeft_add_eq_or_of_lt hb, Nat.shiftLeft_eq]

theorem field_u8 (b : Byte) : field 8 [b] = b := by
  apply BitVec.eq_of_toNat_eq
  simp [field, be]

theorem field_u16 (b0 b1 : Byte) : field 16 [b0, b1] = b0 ++ b1 := by
  rw [show [b0, b1] = [b0] ++ [b1] from rfl, field_snoc 8 [b0] b1 rfl, field_u8]

theorem field_u32 (b0 b1 b2 b3 : Byte) : field 32 [b0, b1, b2, b3] = b0 ++ b1 ++ b2 ++ b3 := by
  rw [show [b0, b1, b2, b3] = [b0, b1, b2] ++ [b3] from rfl, field_snoc 24 [b0, b1, b2] b3 rfl,
    show [b0, b1, b2] = [b0, b1] ++ [b2] from rfl, field_snoc 16 [b0, b1] b2 rfl, field_u16]

theorem field_u64 (b0 b1 b2 b3 b4 b5 b6 b7 : Byte) :
    field 64 [b0, b1, b2, b3, b4, b5, b6, b7] = b0 ++ b1 ++ b2 ++ b3 ++ b4 ++ b5 ++ b6 ++ b7 := by
  rw [show [b0, b1, b2, b3, b4, b5, b6, b7] = [b0, b1, b2, b3, b4, b5, b6] ++ [b7] from rfl,
    field_snoc 56 [b0, b1, b2, b3, b4, b5, b6] b7 rfl,
    show [b0, b1, b2, b3, b4, b5, b6] = [b0, b1, b2, b3, b4, b5] ++ [b6] from rfl,
    field_snoc 48 [b0, b1, b2, b3, b4, b5] b6 rfl,
    show [b0, b1, b2, b3, b4, b5] = [b0, b1, b2, b3, b4] ++ [b5] from rfl,
    field_snoc 40 [b0, b1, b2, b3, b4] b5 rfl,
    show [b0, b1, b2, b3, b4] = [b0, b1, b2, b3] ++ [b4] from rfl,
    field_snoc 32 [b0, b1, b2, b3] b4 rfl, field_u32]

end Sys2Proof.Machine
end

