-- ==== Sys2Proof/Laws/Exec.lean ====
section
/-!
SUPPORT. What a step can do, said once: every reading row is one `extract`, and a next state of it is the held state,
the error entry, or the state its commit gives.
-/
namespace Sys2Proof.Machine

/-- Every reading row is one `extract` under its own name. -/
theorem exec_reading {i : Instr} (hi : i ∈ readingRows) (s : State) : ∃ body, exec i s = extract i body s := by
  simp only [readingRows, List.cons_append, List.nil_append, List.mem_cons, List.not_mem_nil, or_false] at hi
  rcases hi with h | h | h | h | h | h | h | h | h | h | h | h | h | h | h | h | h | h | h | h | h | h | h | h | h | h |
    h | h | h | h | h | h | h | h <;> subst h <;>
  simp only [exec, execHdrPre, execHdrImei, execHdrZero, execHdrFlen, execHdrCodec, execHdrNrec, recordField, execRecTs,
    execRecPrio, execRecLon, execRecLat, execRecAlt, execRecAng, execRecSat, execRecSpd, execIoEvid, execIoTotal,
    groupCount, execGrpCnt1, execGrpCnt2, execGrpCnt4, execGrpCnt8, execGrpCntX, entryId, execEntId1, execEntId2,
    execEntId4, execEntId8, execEntIdX, entryValue, execEntVal1, execEntVal2, execEntVal4, execEntVal8, execVarLen,
    execVarData, execFtrNrec2, execFtrCrc] <;>
  exact ⟨_, rfl⟩

/-- The rows of R93 are LEN_CHK, the three resting states and the reading rows. -/
theorem uopRows_cases {i : Instr} (hi : i ∈ uopRows) :
    i = .idle ∨ i = .lenChk ∨ i = .done ∨ i = .error ∨ i ∈ readingRows := by
  have key : ∀ j ∈ uopRows, j = .idle ∨ j = .lenChk ∨ j = .done ∨ j = .error ∨ j ∈ readingRows := by decide +kernel
  exact key i hi

/-- A reading row with fewer bytes left than it reads enters the error or holds, whatever its rule says else. -/
theorem exec_truncated {i : Instr} (hi : i ∈ readingRows) {s : State} (h : s.len.toNat < s.pos.toNat + readWidth i s) :
    exec i s = raiseError i .truncatedFrame s := by
  obtain ⟨body, hb⟩ := exec_reading hi s
  rw [hb, extract_truncated body h]

/-- A reading row whose tokens find no room holds. -/
theorem exec_hold {i : Instr} (hi : i ∈ readingRows) {s : State} (h : s.pos.toNat + readWidth i s ≤ s.len.toNat)
    (hr : hasRoom (successTokens i) s = false) : exec i s = .next s := by
  obtain ⟨body, hb⟩ := exec_reading hi s
  rw [hb, extract_hold body h hr]

/-- Everything LEN_CHK can do. -/
theorem execLenChk_cases (s : State) :
    (s.len.toNat < 20 ∧ exec .lenChk s = raiseError .lenChk .invalidLength s) ∨
    (20 ≤ s.len.toNat ∧ hasRoom 0 s = true ∧ exec .lenChk s = .next (goto StateCode.hdrPre s)) ∨
    (20 ≤ s.len.toNat ∧ hasRoom 0 s = false ∧ exec .lenChk s = .next s) := by
  show (_ ∧ execLenChk s = _) ∨ (_ ∧ _ ∧ execLenChk s = _) ∨ (_ ∧ _ ∧ execLenChk s = _)
  unfold execLenChk
  by_cases h : s.len.toNat < 20
  · exact .inl ⟨h, if_pos h⟩
  · refine .inr ?_
    have hn : ¬s.len.toNat < Config.minLen := h
    rw [if_neg hn]
    cases hr : hasRoom 0 s
    · exact .inr ⟨by omega, rfl, if_neg (by simp [successTokens, hr])⟩
    · exact .inl ⟨by omega, rfl, if_pos (by simp [successTokens, hr])⟩

/-- Everything START can do. -/
theorem execStart_cases (v : Word) (s : State) :
    (busy s = true ∧ exec (.start v) s = .next (setIrqEn v s)) ∨
    (busy s = false ∧ Config.maxLen < s.len.toNat ∧ exec (.start v) s = .refused .startLenBeyondMaxLen) ∨
    (busy s = false ∧ s.len.toNat ≤ Config.maxLen ∧ (∀ a, a < s.len.toNat → a ∈ s.written) ∧
      exec (.start v) s = .next (clearDecode StateCode.lenChk (setIrqEn v s))) ∨
    (busy s = false ∧ s.len.toNat ≤ Config.maxLen ∧ ¬(∀ a, a < s.len.toNat → a ∈ s.written) ∧
      exec (.start v) s = .refused .startUnwrittenByte) := by
  show (_ ∧ execStart v s = _) ∨ (_ ∧ _ ∧ execStart v s = _) ∨ (_ ∧ _ ∧ _ ∧ execStart v s = _) ∨
    (_ ∧ _ ∧ _ ∧ execStart v s = _)
  unfold execStart
  by_cases hb : busy s = true
  · exact .inl ⟨hb, if_pos hb⟩
  · have hb' : busy s = false := by simpa using hb
    by_cases hl : Config.maxLen < s.len.toNat
    · exact .inr (.inl ⟨hb', hl, by rw [if_neg hb, if_pos hl]⟩)
    · by_cases hw : ∀ a, a < s.len.toNat → a ∈ s.written
      · exact .inr (.inr (.inl ⟨hb', by omega, hw, by rw [if_neg hb, if_neg hl, if_pos (allWritten_iff.2 hw)]⟩))
      · exact .inr (.inr (.inr ⟨hb', by omega, hw, by
          rw [if_neg hb, if_neg hl, if_neg (fun h => hw (allWritten_iff.1 h))]⟩))

/-- Everything CLEAR can do. -/
theorem execClear_cases (v : Word) (s : State) :
    (busy s = true ∧ exec (.clear v) s = .next (setIrqEn v s)) ∨
    (busy s = false ∧ exec (.clear v) s = .next (clearDecode StateCode.idle (setIrqEn v s))) := by
  show (_ ∧ execClear v s = _) ∨ (_ ∧ execClear v s = _)
  unfold execClear
  cases hb : busy s
  · exact .inr ⟨rfl, if_neg (by simp)⟩
  · exact .inl ⟨rfl, if_pos rfl⟩

/-- Everything consume can do. -/
theorem consume_cases (t : Token) (s : State) :
    (t.tag = tagEndOk ∧ consume t s = { s with frames := s.frames ++ [s.partialFrame ++ [t]], partialFrame := [] }) ∨
    (t.tag = tagEndErr ∧ consume t s = { s with partialFrame := [] }) ∨
    (t.tag ≠ tagEndOk ∧ t.tag ≠ tagEndErr ∧ consume t s = { s with partialFrame := s.partialFrame ++ [t] }) := by
  unfold consume
  by_cases h : t.tag = tagEndOk
  · exact .inl ⟨h, if_pos h⟩
  · by_cases h' : t.tag = tagEndErr
    · exact .inr (.inl ⟨h', by rw [if_neg h, if_pos h']⟩)
    · exact .inr (.inr ⟨h, h', by rw [if_neg h, if_neg h']⟩)

/-- Runs compose. -/
theorem run_add (m n : Nat) (s : State) :
    Host.Core.run core (m + n) s =
      match Host.Core.run core m s with
      | .next s' => Host.Core.run core n s'
      | .fault r => .fault r
      | .refused r => .refused r := by
  induction m generalizing s with
  | zero => simp [Host.Core.run]
  | succ m ih =>
    rw [Nat.succ_add]
    simp only [Host.Core.run]
    cases core.step s with
    | next s' => exact ih s'
    | fault r => rfl
    | refused r => rfl

end Sys2Proof.Machine
end

