-- ==== Sys2Proof/Laws/HostSide.lean ====
section
/-!
SUPPORT. What the host may take as the result (R212): nothing unless DONE is 1, and then the token frame of this decode,
wherever its tokens stand.
-/
namespace Sys2Proof.Machine

/-- Tokens that are no END token only join the token frame being received. -/
theorem consume_plain (q : List Token) (s : State) (h : ∀ t ∈ q, t.tag ≠ tagEndOk ∧ t.tag ≠ tagEndErr) :
    q.foldl (fun c t => consume t c) s = { s with partialFrame := s.partialFrame ++ q } := by
  induction q generalizing s with
  | nil => simp
  | cons t q ih =>
    have ht := h t List.mem_cons_self
    rw [List.foldl_cons, ih _ fun u hu => h u (List.mem_cons_of_mem t hu)]
    simp [consume, ht]

theorem consume_endOk {t : Token} (h : t.tag = tagEndOk) (s : State) :
    consume t s = { s with frames := s.frames ++ [s.partialFrame ++ [t]], partialFrame := [] } := if_pos h

/-- An END token of either kind leaves nothing being received. -/
theorem consume_end {t : Token} (h : t.tag = tagEndOk ∨ t.tag = tagEndErr) (s : State) :
    (consume t s).partialFrame = [] := by
  rcases consume_cases t s with ⟨-, hc⟩ | ⟨-, hc⟩ | ⟨h1, h2, -⟩
  · rw [hc]
  · rw [hc]
  · exact absurd h (by simp [h1, h2])

theorem resultTokens_none {s : State} (h : doneFlag s = false) : resultTokens s = none := by
  simp [resultTokens, h]

theorem resultCsrs_none {s : State} (h : doneFlag s = false) : resultCsrs s = none := by
  simp [resultCsrs, h]

theorem resultFrame_none {s : State} (m : Memory) (h : doneFlag s = false) : resultFrame m s = none := by
  simp [resultFrame, resultTokens_none h]

/-- With OUTQ drained the result is the token frame received last. -/
theorem resultTokens_received {s : State} (hd : doneFlag s = true) (hq : s.outq = []) :
    resultTokens s = s.frames.getLast? := by
  simp [resultTokens, drained, hd, hq]

/-- With END_OK still queued and part of its token frame popped, the result is that part and the rest of the queue. -/
theorem resultTokens_queued {s : State} {q : List Token} {t : Token} (hd : doneFlag s = true) (hq : s.outq = q ++ [t])
    (hp : ∀ u ∈ q, u.tag ≠ tagEndOk ∧ u.tag ≠ tagEndErr) (ht : t.tag = tagEndOk) :
    resultTokens s = some (s.partialFrame ++ s.outq) := by
  simp only [resultTokens, drained, hd, hq, List.foldl_append, List.foldl_cons, List.foldl_nil, consume_plain q _ hp,
    consume_endOk ht]
  simp

/-- With an earlier decode's END token still queued too, the result is what follows the last of those (R78, R98). -/
theorem resultTokens_after_end {s : State} {p q : List Token} {e t : Token} (hd : doneFlag s = true)
    (hq : s.outq = p ++ e :: (q ++ [t])) (he : e.tag = tagEndOk ∨ e.tag = tagEndErr)
    (hp : ∀ u ∈ q, u.tag ≠ tagEndOk ∧ u.tag ≠ tagEndErr) (ht : t.tag = tagEndOk) :
    resultTokens s = some (q ++ [t]) := by
  simp only [resultTokens, drained, hd, hq, List.foldl_append, List.foldl_cons, List.foldl_nil, consume_plain q _ hp,
    consume_endOk ht, consume_end he]
  simp

end Sys2Proof.Machine
end

