-- ==== Sys2Proof/Laws/PerInstr.lean ====
section
/-!
SUPPORT. Per-instruction lemmas. The family CanonicalCode says that an instruction's code has 0 in every bit its mask
leaves out (R93: don't-care CLS bits written as 0).
-/
namespace Sys2Proof.Laws

def CanonicalCode.Statement (i : Instr) : Prop := uopCode i &&& uopMask i = uopCode i

theorem CanonicalCode.idle : CanonicalCode.Statement .idle := by unfold CanonicalCode.Statement; decide
theorem CanonicalCode.lenChk : CanonicalCode.Statement .lenChk := by unfold CanonicalCode.Statement; decide
theorem CanonicalCode.hdrPre : CanonicalCode.Statement .hdrPre := by unfold CanonicalCode.Statement; decide
theorem CanonicalCode.hdrImei : CanonicalCode.Statement .hdrImei := by unfold CanonicalCode.Statement; decide
theorem CanonicalCode.hdrZero : CanonicalCode.Statement .hdrZero := by unfold CanonicalCode.Statement; decide
theorem CanonicalCode.hdrFlen : CanonicalCode.Statement .hdrFlen := by unfold CanonicalCode.Statement; decide
theorem CanonicalCode.hdrCodec : CanonicalCode.Statement .hdrCodec := by unfold CanonicalCode.Statement; decide
theorem CanonicalCode.hdrNrec : CanonicalCode.Statement .hdrNrec := by unfold CanonicalCode.Statement; decide
theorem CanonicalCode.recTs : CanonicalCode.Statement .recTs := by unfold CanonicalCode.Statement; decide
theorem CanonicalCode.recPrio : CanonicalCode.Statement .recPrio := by unfold CanonicalCode.Statement; decide
theorem CanonicalCode.recLon : CanonicalCode.Statement .recLon := by unfold CanonicalCode.Statement; decide
theorem CanonicalCode.recLat : CanonicalCode.Statement .recLat := by unfold CanonicalCode.Statement; decide
theorem CanonicalCode.recAlt : CanonicalCode.Statement .recAlt := by unfold CanonicalCode.Statement; decide
theorem CanonicalCode.recAng : CanonicalCode.Statement .recAng := by unfold CanonicalCode.Statement; decide
theorem CanonicalCode.recSat : CanonicalCode.Statement .recSat := by unfold CanonicalCode.Statement; decide
theorem CanonicalCode.recSpd : CanonicalCode.Statement .recSpd := by unfold CanonicalCode.Statement; decide
theorem CanonicalCode.ioEvid : CanonicalCode.Statement .ioEvid := by unfold CanonicalCode.Statement; decide
theorem CanonicalCode.ioTotal : CanonicalCode.Statement .ioTotal := by unfold CanonicalCode.Statement; decide
theorem CanonicalCode.grpCnt1 : CanonicalCode.Statement .grpCnt1 := by unfold CanonicalCode.Statement; decide
theorem CanonicalCode.grpCnt2 : CanonicalCode.Statement .grpCnt2 := by unfold CanonicalCode.Statement; decide
theorem CanonicalCode.grpCnt4 : CanonicalCode.Statement .grpCnt4 := by unfold CanonicalCode.Statement; decide
theorem CanonicalCode.grpCnt8 : CanonicalCode.Statement .grpCnt8 := by unfold CanonicalCode.Statement; decide
theorem CanonicalCode.grpCntX : CanonicalCode.Statement .grpCntX := by unfold CanonicalCode.Statement; decide
theorem CanonicalCode.entId1 : CanonicalCode.Statement .entId1 := by unfold CanonicalCode.Statement; decide
theorem CanonicalCode.entId2 : CanonicalCode.Statement .entId2 := by unfold CanonicalCode.Statement; decide
theorem CanonicalCode.entId4 : CanonicalCode.Statement .entId4 := by unfold CanonicalCode.Statement; decide
theorem CanonicalCode.entId8 : CanonicalCode.Statement .entId8 := by unfold CanonicalCode.Statement; decide
theorem CanonicalCode.entIdX : CanonicalCode.Statement .entIdX := by unfold CanonicalCode.Statement; decide
theorem CanonicalCode.entVal1 : CanonicalCode.Statement .entVal1 := by unfold CanonicalCode.Statement; decide
theorem CanonicalCode.entVal2 : CanonicalCode.Statement .entVal2 := by unfold CanonicalCode.Statement; decide
theorem CanonicalCode.entVal4 : CanonicalCode.Statement .entVal4 := by unfold CanonicalCode.Statement; decide
theorem CanonicalCode.entVal8 : CanonicalCode.Statement .entVal8 := by unfold CanonicalCode.Statement; decide
theorem CanonicalCode.varLen : CanonicalCode.Statement .varLen := by unfold CanonicalCode.Statement; decide
theorem CanonicalCode.varData : CanonicalCode.Statement .varData := by unfold CanonicalCode.Statement; decide
theorem CanonicalCode.ftrNrec2 : CanonicalCode.Statement .ftrNrec2 := by unfold CanonicalCode.Statement; decide
theorem CanonicalCode.ftrCrc : CanonicalCode.Statement .ftrCrc := by unfold CanonicalCode.Statement; decide
theorem CanonicalCode.done : CanonicalCode.Statement .done := by unfold CanonicalCode.Statement; decide
theorem CanonicalCode.error : CanonicalCode.Statement .error := by unfold CanonicalCode.Statement; decide
theorem CanonicalCode.start (v : Word) : CanonicalCode.Statement (.start v) := by
  show (0x00#8 &&& 0x00#8) = 0x00#8
  decide
theorem CanonicalCode.clear (v : Word) : CanonicalCode.Statement (.clear v) := by
  show (0x00#8 &&& 0x00#8) = 0x00#8
  decide

end Sys2Proof.Laws
end

