-- ==== Sys2Proof/Laws/Reference.lean ====
section
/-!
SUPPORT. How the pieces of DECODE succeed and fail, so that no later proof unfolds the parser.
-/
namespace Sys2Proof.Machine

/-- Two pieces in a row succeed when the first does and then the second. -/
theorem bind_ok {α β : Type} {p : Parser α} {f : α → Parser β} {bs r : List Byte} {b : β} :
    (p >>= f) bs = .ok (b, r) ↔ ∃ a r', p bs = .ok (a, r') ∧ f a r' = .ok (b, r) := by
  show (Except.bind (p bs) fun x => f x.1 x.2) = .ok (b, r) ↔ _
  cases h : p bs with
  | ok x =>
    obtain ⟨a, r'⟩ := x
    simp [Except.bind]
  | error e => simp [Except.bind]

/-- Two pieces in a row fail when the first does, or the first succeeds and the second fails. -/
theorem bind_error {α β : Type} {p : Parser α} {f : α → Parser β} {bs : List Byte} {e : ErrKind} :
    (p >>= f) bs = .error e ↔ p bs = .error e ∨ ∃ a r', p bs = .ok (a, r') ∧ f a r' = .error e := by
  show (Except.bind (p bs) fun x => f x.1 x.2) = .error e ↔ _
  cases h : p bs with
  | ok x =>
    obtain ⟨a, r'⟩ := x
    simp [Except.bind]
  | error e => simp [Except.bind]

theorem pure_ok {α : Type} {a b : α} {bs r : List Byte} :
    (pure a : Parser α) bs = .ok (b, r) ↔ a = b ∧ bs = r := by
  show Except.ok (a, bs) = Except.ok (b, r) ↔ _
  simp

theorem pure_error {α : Type} {a : α} {bs : List Byte} {e : ErrKind} : (pure a : Parser α) bs ≠ .error e := by
  show Except.ok (a, bs) ≠ Except.error e
  simp

/-- rd(n) succeeds when n bytes are left. -/
theorem rd_ok {n : Nat} {bs d r : List Byte} :
    rd n bs = .ok (d, r) ↔ n ≤ bs.length ∧ d = bs.take n ∧ r = bs.drop n := by
  unfold rd
  by_cases h : bs.length < n
  · simp [h]
  · simp [h, Nat.not_lt.1 h, eq_comm]

/-- rd(n) fails only with TruncatedFrame, when fewer than n bytes are left. -/
theorem rd_error {n : Nat} {bs : List Byte} {e : ErrKind} :
    rd n bs = .error e ↔ bs.length < n ∧ e = .truncatedFrame := by
  unfold rd
  by_cases h : bs.length < n <;> simp [h, eq_comm]

theorem rdField_ok {w : Nat} {bs r : List Byte} {v : BitVec w} :
    rdField w bs = .ok (v, r) ↔ w / 8 ≤ bs.length ∧ v = field w (bs.take (w / 8)) ∧ r = bs.drop (w / 8) := by
  unfold rdField
  simp only [bind_ok, pure_ok, rd_ok]
  constructor
  · rintro ⟨a, r', ⟨h1, rfl, rfl⟩, rfl, rfl⟩
    exact ⟨h1, rfl, rfl⟩
  · rintro ⟨h1, rfl, rfl⟩
    exact ⟨_, _, ⟨h1, rfl, rfl⟩, rfl, rfl⟩

theorem rdField_error {w : Nat} {bs : List Byte} {e : ErrKind} :
    rdField w bs = .error e ↔ bs.length < w / 8 ∧ e = .truncatedFrame := by
  unfold rdField
  simp only [bind_error, rd_error, pure_error, and_false, exists_false, or_false]

theorem repeatRead_zero {α : Type} {p : Parser α} {bs r : List Byte} {as : List α} :
    repeatRead p 0 bs = .ok (as, r) ↔ as = [] ∧ r = bs := by
  show (pure [] : Parser (List α)) bs = .ok (as, r) ↔ _
  rw [pure_ok, eq_comm, @eq_comm _ bs]

theorem repeatRead_succ {α : Type} {p : Parser α} {n : Nat} {bs r : List Byte} {as : List α} :
    repeatRead p (n + 1) bs = .ok (as, r) ↔
      ∃ a as' r', as = a :: as' ∧ p bs = .ok (a, r') ∧ repeatRead p n r' = .ok (as', r) := by
  show (p >>= fun a => repeatRead p n >>= fun as => pure (a :: as)) bs = .ok (as, r) ↔ _
  simp only [bind_ok, pure_ok]
  constructor
  · rintro ⟨a, r1, h1, as', r2, h2, rfl, rfl⟩
    exact ⟨a, as', r1, rfl, h1, h2⟩
  · rintro ⟨a, as', r1, rfl, h1, h2⟩
    exact ⟨a, r1, h1, as', r, h2, rfl, rfl⟩

/-- As many values as asked for. -/
theorem repeatRead_length {α : Type} {p : Parser α} {n : Nat} {bs r : List Byte} {as : List α}
    (h : repeatRead p n bs = .ok (as, r)) : as.length = n := by
  induction n generalizing bs as with
  | zero => simp [(repeatRead_zero.1 h).1]
  | succ n ih =>
    obtain ⟨a, as', r', rfl, -, h2⟩ := repeatRead_succ.1 h
    simp [ih h2]

end Sys2Proof.Machine
end

