-- ==== Sys2Proof/Laws/Turn.lean ====
section
/-!
SUPPORT. What a step of the whole can do, said once: one lemma per move, then the step.
-/
namespace Sys2Proof.Machine

/-- The engine's turn that goes on is exec of the selected row. -/
theorem engineTurn_next {s s' : State} (h : engineTurn s = .next s') :
    ∃ i, decodeUop (uop s) = .ok i ∧ exec i s = .next s' := by
  unfold engineTurn at h
  cases hd : decodeUop (uop s) with
  | ok i =>
    rw [hd] at h
    exact ⟨i, rfl, h⟩
  | error r =>
    rw [hd] at h
    cases h

theorem engineTurn_of_decode {s : State} {i : Instr} (h : decodeUop (uop s) = .ok i) : engineTurn s = exec i s := by
  unfold engineTurn
  rw [h]

/-- A CTRL write that goes on: START, CLEAR, or IRQ_EN alone. -/
theorem writeCtrl_cases (v : Word) (s : State) :
    (v.getLsbD 0 = true ∧ writeCtrl v s = exec (.start v) s) ∨
    (v.getLsbD 0 = false ∧ v.getLsbD 1 = true ∧ writeCtrl v s = exec (.clear v) s) ∨
    (v.getLsbD 0 = false ∧ v.getLsbD 1 = false ∧ writeCtrl v s = .next (setIrqEn v s)) := by
  unfold writeCtrl decodeCtrl
  cases h0 : v.getLsbD 0
  · cases h1 : v.getLsbD 1
    · exact .inr (.inr ⟨rfl, rfl, rfl⟩)
    · exact .inr (.inl ⟨rfl, rfl, rfl⟩)
  · exact .inl ⟨rfl, rfl⟩

/-- A CSR write that goes on. -/
theorem writeCsr_next {off : Word} {lanes : BitVec 4} {v : Word} {s s' : State} (h : writeCsr off lanes v s = .next s') :
    csrAligned off lanes = true ∧
    ((off = Csr.ctrl ∧ writeCtrl v s = .next s') ∨ (off = Csr.len ∧ s' = writeLen v s) ∨
      (off ≠ Csr.ctrl ∧ off ≠ Csr.len ∧ s' = s)) := by
  unfold writeCsr at h
  cases ha : csrAligned off lanes with
  | false =>
    rw [ha] at h
    cases h
  | true =>
    refine ⟨rfl, ?_⟩
    rw [if_pos ha] at h
    by_cases hc : off = Csr.ctrl
    · rw [if_pos hc] at h
      exact .inl ⟨hc, h⟩
    · rw [if_neg hc] at h
      by_cases hl : off = Csr.len
      · rw [if_pos hl] at h
        cases h
        exact .inr (.inl ⟨hl, rfl⟩)
      · rw [if_neg hl] at h
        cases h
        exact .inr (.inr ⟨hc, hl, rfl⟩)

/-- A CSR read that goes on. -/
theorem readCsr_next {off : Word} {lanes : BitVec 4} {s s' : State} (h : readCsr off lanes s = .next s') :
    csrAligned off lanes = true ∧ s' = { s with rdata := csrValue off s } := by
  unfold readCsr at h
  cases ha : csrAligned off lanes with
  | false =>
    rw [ha] at h
    cases h
  | true =>
    rw [if_pos ha] at h
    cases h
    exact ⟨rfl, rfl⟩

/-- A BUF write that goes on. -/
theorem writeBuf_next {off : Nat} {bytes : List Byte} {s s' : State} (h : writeBuf off bytes s = .next s') :
    busy s = false ∧ off + bytes.length ≤ Config.maxLen ∧
    s' = { s with buf := writeBytes s.buf off bytes, written := markOffsets s.written off bytes.length } := by
  unfold writeBuf at h
  cases hb : busy s with
  | true =>
    rw [hb] at h
    cases h
  | false =>
    rw [if_neg (by simp [hb])] at h
    by_cases hl : off + bytes.length ≤ Config.maxLen
    · rw [if_pos hl] at h
      cases h
      exact ⟨rfl, hl, rfl⟩
    · rw [if_neg hl] at h
      cases h

/-- A pop: the engine's turn on an empty queue, else the head goes to the consumer. -/
theorem popTurn_cases (rest : List Move) (s : State) :
    (s.outq = [] ∧ popTurn rest s = engineTurn s) ∨
    ∃ t q, s.outq = t :: q ∧ popTurn rest s = .next (consume t { s with agenda := rest, outq := q }) := by
  unfold popTurn
  cases h : s.outq with
  | nil => exact .inl ⟨rfl, rfl⟩
  | cons t q => exact .inr ⟨t, q, rfl, rfl⟩

/-- Everything a step can do when it answers a next state. -/
theorem step_cases {s s' : State} (h : step s = .next s') :
    (s.agenda = [] ∧ engineTurn s = .next s') ∨
    (∃ rest, s.agenda = .engine :: rest ∧ engineTurn { s with agenda := rest } = .next s') ∨
    (∃ off lanes v rest, s.agenda = .csrWrite off lanes v :: rest ∧
      writeCsr off lanes v { s with agenda := rest } = .next s') ∨
    (∃ off lanes rest, s.agenda = .csrRead off lanes :: rest ∧
      readCsr off lanes { s with agenda := rest } = .next s') ∨
    (∃ off bytes rest, s.agenda = .bufWrite off bytes :: rest ∧
      writeBuf off bytes { s with agenda := rest } = .next s') ∨
    (∃ rest, s.agenda = .pop :: rest ∧ popTurn rest s = .next s') ∨
    (∃ rest, s.agenda = .reset :: rest ∧ s' = resetBlock { s with agenda := rest }) := by
  unfold step takeTurn at h
  cases ha : s.agenda with
  | nil =>
    rw [ha] at h
    exact .inl ⟨rfl, h⟩
  | cons m rest =>
    rw [ha] at h
    cases m with
    | engine => exact .inr (.inl ⟨rest, rfl, h⟩)
    | csrWrite off lanes v => exact .inr (.inr (.inl ⟨off, lanes, v, rest, rfl, h⟩))
    | csrRead off lanes => exact .inr (.inr (.inr (.inl ⟨off, lanes, rest, rfl, h⟩)))
    | bufWrite off bytes => exact .inr (.inr (.inr (.inr (.inl ⟨off, bytes, rest, rfl, h⟩))))
    | pop => exact .inr (.inr (.inr (.inr (.inr (.inl ⟨rest, rfl, h⟩)))))
    | reset =>
      cases h
      exact .inr (.inr (.inr (.inr (.inr (.inr ⟨rest, rfl, rfl⟩)))))

/-- A platform step is a step of its block. -/
theorem platformStep_some {j : Nat} {blocks blocks' : List State} (h : platformStep j blocks = some blocks') :
    ∃ s s', blocks[j]? = some s ∧ step s = .next s' ∧ blocks' = blocks.set j s' := by
  unfold platformStep at h
  cases hj : blocks[j]? with
  | none =>
    rw [hj] at h
    cases h
  | some s =>
    rw [hj] at h
    cases ht : takeTurn s with
    | next s' =>
      simp only [ht] at h
      cases h
      exact ⟨s, s', rfl, ht, rfl⟩
    | fault r =>
      simp only [ht] at h
      cases h
    | refused r =>
      simp only [ht] at h
      cases h

end Sys2Proof.Machine
end

