-- ==== Sys2Proof/Tests/Slice0.lean ====
section
/-!
SUPPORT. The model's own tests, each about one step. Expected values come from spec/ (95_test_vectors.md unless a comment
names another file); a token is written as its 96 bits. The witnesses show, statement by statement, states and operands
that meet the hypotheses of Certificates/Slice0/Obligations.lean.
-/
namespace Sys2Proof.Tests
open Sys2Proof.Machine

/-- The next state, where there is one. -/
def after : Host.Outcome State Fault Refusal → Option State
  | .next s => some s
  | .fault _ => none
  | .refused _ => none

/-- The refusal, where there is one. -/
def refusalOf : Host.Outcome State Fault Refusal → Option Refusal
  | .next _ => none
  | .fault _ => none
  | .refused r => some r

/-- The engine at STATE `c`, CLS `k` and POS `p`, with `bs` the last bytes of the frame. -/
def at_ (c : BitVec 5) (k : BitVec 3) (p : Nat) (bs : List Byte) : State :=
  { State.reset with
    state := c, cls := k, pos := BitVec.ofNat 32 p, len := BitVec.ofNat 32 (p + bs.length),
    buf := writeBytes [] p bs }

/-- What a test looks at after a step: the tokens, POS and UOP. -/
def seen (o : Host.Outcome State Fault Refusal) : Option (List (BitVec 96) × Word × BitVec 8) :=
  (after o).map (fun t => (t.outq.map tokenWord, t.pos, uop t))

/-- The identity "863719065084221" (P1). -/
def identity : List Byte :=
  [0x38, 0x36, 0x33, 0x37, 0x31, 0x39, 0x30, 0x36, 0x35, 0x30, 0x38, 0x34, 0x32, 0x32, 0x31]

/-! ## WellFormed -/

theorem test_wf_start_without_bit0 : (Instr.start 0x6#32).wf = false := by decide
theorem test_wf_clear_with_bit0 : (Instr.clear 0x3#32).wf = false := by decide
theorem test_wf_clear_without_bit1 : (Instr.clear 0x4#32).wf = false := by decide

/-! ## Decode: words written out from 30_encoding.md R90 to R93 and 44_host_commands.md R202, R203 -/

/-- STATE 00000, CLS don't-care -/
theorem test_decode_idle : decodeUop 0b00000000#8 = .ok .idle := by decide
/-- STATE 00011 -/
theorem test_decode_hdr_imei : decodeUop 0b00011000#8 = .ok .hdrImei := by decide
/-- STATE 00011, CLS is a don't-care -/
theorem test_decode_hdr_imei_cls : decodeUop 0b00011111#8 = .ok .hdrImei := by decide
/-- STATE 01011 -/
theorem test_decode_rec_lat : decodeUop 0b01011000#8 = .ok .recLat := by decide
/-- STATE 10001 -/
theorem test_decode_io_total : decodeUop 0b10001000#8 = .ok .ioTotal := by decide
/-- STATE 10010, CLS 100 -/
theorem test_decode_grp_cnt_x : decodeUop 0b10010100#8 = .ok .grpCntX := by decide
/-- STATE 10011, CLS 010 -/
theorem test_decode_ent_id_4 : decodeUop 0b10011010#8 = .ok .entId4 := by decide
/-- STATE 10100, CLS 011 -/
theorem test_decode_ent_val_8 : decodeUop 0b10100011#8 = .ok .entVal8 := by decide
/-- STATE 10101, CLS 100 -/
theorem test_decode_var_len : decodeUop 0b10101100#8 = .ok .varLen := by decide
/-- STATE 10110, CLS 100 -/
theorem test_decode_var_data : decodeUop 0b10110100#8 = .ok .varData := by decide
/-- STATE 11000, CLS left at 4 -/
theorem test_decode_ftr_crc_cls4 : decodeUop 0b11000100#8 = .ok .ftrCrc := by decide
/-- STATE 11111 -/
theorem test_decode_error : decodeUop 0b11111000#8 = .ok .error := by decide
/-- CTRL bits 1:0 = 11: START wins (R204). -/
theorem test_decode_start : decodeCtrl 0b11#32 = .ok (.start 0b11#32) := by decide
/-- CTRL bits 2:0 = 110: CLEAR. -/
theorem test_decode_clear : decodeCtrl 0b110#32 = .ok (.clear 0b110#32) := by decide
/-- CTRL bits 1:0 = 00: no command. -/
theorem test_decode_no_command : decodeCtrl 0b100#32 = .error .noCommand := by decide
/-- R103, one value of each reserved line. -/
theorem test_decode_reserved :
    decodeUop 0x95#8 = .error .grpCntClass ∧ decodeUop 0x9F#8 = .error .entIdClass ∧
    decodeUop 0xA4#8 = .error .entValClass ∧ decodeUop 0xAB#8 = .error .varLenClass ∧
    decodeUop 0xB5#8 = .error .varDataClass ∧ decodeUop 0xC8#8 = .error .reservedState := by decide
theorem test_table_words :
    decodeTableWord 8 0x50 = some .recLon ∧ decodeTableWord 8 1 = some (.start 1#32) ∧
    decodeTableWord 8 2 = some (.clear 2#32) ∧ decodeTableWord 32 3 = some (.start 3#32) ∧
    decodeTableWord 8 0xA4 = none := by decide

/-! ## Steps -/

/-- R120, R192, R193: the resting states have no engine step. -/
theorem test_resting :
    after (step State.reset) = some State.reset ∧
    seen (step (at_ 0x1E#5 4#3 107 [])) = some ([], 107#32, 0xF4#8) ∧
    seen (step (at_ 0x1F#5 0#3 95 [])) = some ([], 95#32, 0xF8#8) := by decide

/-- S5: 19 bytes -/
theorem test_len_chk_19 :
    seen (step (at_ 0x01#5 0#3 0 (List.replicate 19 0x00))) =
      some ([0xF80000000000000000000801#96], 0#32, 0xF8#8) := by decide

/-- V-HDR: 20 bytes -/
theorem test_len_chk_20 :
    seen (step (at_ 0x01#5 0#3 0 (List.replicate 20 0x00))) =
      some ([], 0#32, 0x10#8) := by decide

theorem test_hdr_pre :
    seen (step (at_ 0x02#5 0#3 0 [0x00, 0x0F])) =
      some ([], 2#32, 0x18#8) := by decide

theorem test_hdr_imei :
    seen (step (at_ 0x03#5 0#3 2 identity)) =
      some ([0x18000000000000020000000F#96], 17#32, 0x20#8) := by decide

/-- P4: a last byte of 0xB1 -/
theorem test_hdr_imei_b1 :
    seen (step (at_ 0x03#5 0#3 2 (identity.take 14 ++ [0xB1]))) =
      some ([0xF80000000000000200001803#96], 2#32, 0xF8#8) := by decide

theorem test_hdr_zero :
    seen (step (at_ 0x04#5 0#3 17 [0x00, 0x00, 0x00, 0x00])) =
      some ([], 21#32, 0x28#8) := by decide

/-- S6 -/
theorem test_hdr_zero_short :
    seen (step (at_ 0x04#5 0#3 17 [0x00, 0x00, 0x00])) =
      some ([0xF80000000000001100002002#96], 17#32, 0xF8#8) := by decide

theorem test_hdr_flen :
    seen (step (at_ 0x05#5 0#3 21 [0x00, 0x00, 0x00, 0x03])) =
      some ([0x280000000000000000000003#96], 25#32, 0x30#8) := by decide

theorem test_hdr_codec :
    seen (step (at_ 0x06#5 0#3 25 [0x8E])) =
      some ([0x30000000000000000000008E#96], 26#32, 0x38#8) := by decide

/-- P1 -/
theorem test_hdr_nrec_0 :
    seen (step (at_ 0x07#5 0#3 26 [0x00])) =
      some ([0x380000000000000000000000#96], 27#32, 0xB8#8) := by decide

/-- P2 -/
theorem test_hdr_nrec_1 :
    seen (step (at_ 0x07#5 0#3 26 [0x01])) =
      some ([0x380000000000000000000001#96], 27#32, 0x40#8) := by decide

theorem test_rec_ts :
    seen (step (at_ 0x08#5 0#3 27 [0x00, 0x00, 0x01, 0x6B, 0x40, 0xD8, 0xEA, 0x30])) =
      some ([0x400000000000016B40D8EA30#96], 35#32, 0x48#8) := by decide

/-- V-REC: no range check -/
theorem test_rec_ts_max :
    seen (step ({ at_ 0x08#5 0#3 27 [0xFF, 0xFF, 0xFF, 0xFF, 0xFF, 0xFF, 0xFF, 0xFF] with recDone := 1#8 })) =
      some ([0x40010000FFFFFFFFFFFFFFFF#96], 35#32, 0x48#8) := by decide

theorem test_rec_prio :
    seen (step ({ at_ 0x09#5 0#3 35 [0xFF] with recDone := 1#8 })) =
      some ([0x4801000000000000000000FF#96], 36#32, 0x50#8) := by decide

/-- S1 -/
theorem test_rec_lon :
    seen (step (at_ 0x0A#5 0#3 36 [0x3F, 0xAA, 0xD2, 0x5F])) =
      some ([0x500000007F55A4BE3FAAD25F#96], 40#32, 0x58#8) := by decide

/-- V-COORD -/
theorem test_rec_lon_sign :
    seen (step (at_ 0x0A#5 0#3 36 [0x80, 0x00, 0x00, 0x00])) =
      some ([0x50000000FFFFFFFF80000000#96], 40#32, 0x58#8) := by decide

/-- S2 -/
theorem test_rec_lat :
    seen (step (at_ 0x0B#5 0#3 40 [0xFC, 0x3C, 0xAD, 0x10])) =
      some ([0x580000000786A5DFFC3CAD10#96], 44#32, 0x60#8) := by decide

/-- V-COORD -/
theorem test_rec_lat_minus_zero :
    seen (step (at_ 0x0B#5 0#3 40 [0xFF, 0xFF, 0xFF, 0xFF])) =
      some ([0x5800000000000001FFFFFFFF#96], 44#32, 0x60#8) := by decide

/-- V-REC: unsigned -/
theorem test_rec_alt :
    seen (step ({ at_ 0x0C#5 0#3 44 [0xFF, 0xFF] with recDone := 1#8 })) =
      some ([0x60010000000000000000FFFF#96], 46#32, 0x68#8) := by decide

theorem test_rec_ang :
    seen (step (at_ 0x0D#5 0#3 46 [0x00, 0xB4])) =
      some ([0x6800000000000000000000B4#96], 48#32, 0x70#8) := by decide

theorem test_rec_sat :
    seen (step (at_ 0x0E#5 0#3 48 [0x0C])) =
      some ([0x70000000000000000000000C#96], 49#32, 0x78#8) := by decide

theorem test_rec_spd :
    seen (step (at_ 0x0F#5 0#3 49 [0x00, 0x32])) =
      some ([0x780000000000000000000032#96], 51#32, 0x80#8) := by decide

theorem test_io_evid :
    seen (step (at_ 0x10#5 0#3 51 [0x00, 0x01])) =
      some ([0x800000000000000000000001#96], 53#32, 0x88#8) := by decide

/-- P2; CLS goes to 0 -/
theorem test_io_total :
    seen (step ({ at_ 0x11#5 4#3 53 [0x00, 0x06] with sumk := 9#19 })) =
      some ([0x880000000000000000000006#96], 55#32, 0x90#8) := by decide

theorem test_grp_cnt1 :
    seen (step (at_ 0x12#5 0#3 55 [0x00, 0x02])) =
      some ([0x900000000000000000000002#96], 57#32, 0x98#8) := by decide

theorem test_grp_cnt2 :
    seen (step (at_ 0x12#5 1#3 63 [0x00, 0x01])) =
      some ([0x910000000000000000000001#96], 65#32, 0x99#8) := by decide

theorem test_grp_cnt4 :
    seen (step (at_ 0x12#5 2#3 69 [0x00, 0x01])) =
      some ([0x920000000000000000000001#96], 71#32, 0x9A#8) := by decide

theorem test_grp_cnt8 :
    seen (step (at_ 0x12#5 3#3 77 [0x00, 0x01])) =
      some ([0x930000000000000000000001#96], 79#32, 0x9B#8) := by decide

/-- R160: the empty group passes to the next class -/
theorem test_grp_cnt8_0 :
    seen (step (at_ 0x12#5 3#3 77 [0x00, 0x00])) =
      some ([0x930000000000000000000000#96], 79#32, 0x94#8) := by decide

theorem test_grp_cntx :
    seen (step (at_ 0x12#5 4#3 89 [0x00, 0x02])) =
      some ([0x940000000000000000000002#96], 91#32, 0x9C#8) := by decide

/-- P5 record 0: the record ends, one more follows -/
theorem test_grp_cntx_0 :
    seen (step ({ at_ 0x12#5 4#3 67 [0x00, 0x00] with nrec := 2#8 })) =
      some ([0x940000000000000000000000#96], 69#32, 0x44#8) := by decide

theorem test_ent_id1 :
    seen (step (at_ 0x13#5 0#3 57 [0x00, 0x47])) =
      some ([], 59#32, 0xA0#8) := by decide

theorem test_ent_id2 :
    seen (step (at_ 0x13#5 1#3 65 [0x00, 0x42])) =
      some ([], 67#32, 0xA1#8) := by decide

theorem test_ent_id4 :
    seen (step (at_ 0x13#5 2#3 71 [0x00, 0xF1])) =
      some ([], 73#32, 0xA2#8) := by decide

theorem test_ent_id8 :
    seen (step (at_ 0x13#5 3#3 79 [0x00, 0x4E])) =
      some ([], 81#32, 0xA3#8) := by decide

theorem test_ent_idx :
    seen (step (at_ 0x13#5 4#3 91 [0x01, 0x01])) =
      some ([], 93#32, 0xAC#8) := by decide

/-- P6 -/
theorem test_ent_id1_cut :
    seen (step (at_ 0x13#5 0#3 60 [])) =
      some ([0xF80000000000003C00009802#96], 60#32, 0xF8#8) := by decide

/-- P2: one more entry -/
theorem test_ent_val1 :
    seen (step ({ at_ 0x14#5 0#3 59 [0x02] with k := 2#16, id := 0x47#16 })) =
      some ([0xA00000470000000000000002#96], 60#32, 0x98#8) := by decide

/-- P2: the last entry -/
theorem test_ent_val1_last :
    seen (step ({ at_ 0x14#5 0#3 62 [0x01] with k := 2#16, idx := 1#16, id := 0xEF#16 })) =
      some ([0xA00000EF0000000000000001#96], 63#32, 0x91#8) := by decide

theorem test_ent_val2 :
    seen (step ({ at_ 0x14#5 1#3 67 [0x5D, 0xFC] with k := 1#16, id := 0x42#16 })) =
      some ([0xA10000420000000000005DFC#96], 69#32, 0x92#8) := by decide

theorem test_ent_val4 :
    seen (step ({ at_ 0x14#5 2#3 73 [0x00, 0x00, 0x60, 0x1A] with k := 1#16, id := 0xF1#16 })) =
      some ([0xA20000F1000000000000601A#96], 77#32, 0x93#8) := by decide

theorem test_ent_val8 :
    seen (step ({ at_ 0x14#5 3#3 81 [0x11, 0x22, 0x33, 0x44, 0x55, 0x66, 0x77, 0x88] with k := 1#16, id := 0x4E#16 })) =
      some ([0xA300004E1122334455667788#96], 89#32, 0x94#8) := by decide

theorem test_var_len :
    seen (step (at_ 0x15#5 4#3 93 [0x00, 0x03])) =
      some ([], 95#32, 0xB4#8) := by decide

/-- V-IO: VAR_LEN cut -/
theorem test_var_len_cut :
    seen (step (at_ 0x15#5 4#3 100 [])) =
      some ([0xF8000000000000640000AC02#96], 100#32, 0xFC#8) := by decide

/-- P2: a value of 3 bytes, then (S3) an empty one that ends the record: the counts add up to 7, TOTAL is 6. -/
theorem test_var_data :
    seen (step { at_ 0x16#5 4#3 95 [0xAA, 0xBB, 0xCC] with n := 3#16, k := 2#16, id := 0x101#16 }) =
      some ([0xB40001010000005F00000003#96], 98#32, 0x9C#8) ∧
    (after (step { at_ 0x16#5 4#3 102 [] with
      k := 2#16, idx := 1#16, id := 0x102#16, sumk := 7#19, total := 6#16, nrec := 1#8 })).map
      (fun t => (t.outq.map tokenWord, t.pos, uop t, t.cmm, t.recDone)) =
      some ([0xB40001020000006600000000#96], 102#32, 0xBC#8, true, 1#8) := by decide

/-- S4, P3 -/
theorem test_var_data_short :
    seen (step ({ at_ 0x16#5 4#3 95 [0xAA, 0xBB] with n := 3#16, k := 2#16, id := 0x101#16 })) =
      some ([0xF80000000000005F0000B402#96], 95#32, 0xFC#8) := by decide

theorem test_ftr_nrec2 :
    seen (step ({ at_ 0x17#5 4#3 102 [0x01] with nrec := 1#8, recDone := 1#8 })) =
      some ([0xB80100000000000000000001#96], 103#32, 0xC4#8) := by decide

/-- P2 before FTR_CRC. -/
def p2Crc : State :=
  { at_ 0x18#5 4#3 103 [0x00, 0x00, 0xA1, 0xB2] with nrec := 1#8, recDone := 1#8, cmm := true }

theorem witness_FooterStepsComplete_crc : Ready .ftrCrc p2Crc [0x00, 0x00, 0xA1, 0xB2] :=
  ⟨by decide, hasRoom_of_empty rfl (by decide), by decide⟩

theorem test_ftr_crc :
    seen (exec .ftrCrc p2Crc) =
      some ([0xC0010000000000000000A1B2#96, 0xF0010000000000010000006B#96], 107#32, 0xF4#8) := by
  show seen (execFtrCrc p2Crc) = _
  unfold execFtrCrc
  rw [extract_ready _ witness_FooterStepsComplete_crc]
  decide

/-- V-HDR, LEN = 31: one free place is enough for END_ERR. -/
theorem test_ftr_crc_short :
    seen (step (at_ 0x18#5 0#3 28 [0x00, 0x00, 0xC7])) =
      some ([0xF80000000000001C0000C002#96], 28#32, 0xF8#8) := by decide

/-! ## Commands and CSRs (V-HOST) -/

/-- IDLE with 32 bytes loaded. -/
def loaded : State :=
  { State.reset with len := 32#32, written := List.range 32 }

/-- A host write of CTRL next. -/
def writesCtrl (v : Word) (s : State) : State := { s with agenda := [.csrWrite 0x00#32 0xF#4 v] }

/-- IDLE, LEN = 32: `wr CTRL, 0x5` starts and sets IRQ_EN; over a byte nothing has written it is refused (R253). -/
theorem test_start :
    (after (step (writesCtrl 0x5#32 loaded))).map (fun t => (uop t, busy t, t.len, t.irqEn)) =
      some (0x08#8, true, 32#32, true) ∧
    refusalOf (exec (.start 1#32) { State.reset with len := 1#32 }) = some .startUnwrittenByte := by decide

/-- DONE: `wr CTRL, 0x3` is a START. -/
theorem test_start_wins :
    (after (step (writesCtrl 0x3#32 { loaded with state := 0x1E#5, cls := 4#3, cmm := true }))).map
      (fun t => (uop t, t.cmm)) = some (0x08#8, false) := by decide

/-- ERROR, OUTQ empty: `wr CTRL, 0x2` gives STATUS = 0x00002000 and ERRINFO = 0. -/
theorem test_clear :
    (after (step (writesCtrl 0x2#32
      { loaded with state := 0x1F#5, err := 2#3, errUop := 0xB4#8, errPos := 95#32 }))).map
      (fun t => (uop t, csrValue 0x10#32 t, csrValue 0x14#32 t, t.len)) =
      some (0x00#8, 0#32, 0#32, 32#32) := by decide

/-- BUSY: `wr CTRL, 0x2` is ignored. -/
theorem test_clear_while_busy :
    (after (step (writesCtrl 0x2#32 { loaded with state := 0x08#5, irqEn := true }))).map
      (fun t => (uop t, t.irqEn)) = some (0x40#8, false) := by decide

/-- BUSY: `wr LEN, 5` is ignored. -/
theorem test_len_while_busy :
    (after (step { loaded with state := 0x08#5, agenda := [.csrWrite 0x08#32 0xF#4 5#32] })).map
      (fun t => t.len) = some 32#32 := by decide

/-- V-IMEI, R55: IMEI0 to IMEI3 for the identity of P1. -/
theorem test_csr_imei :
    [0x24#32, 0x28#32, 0x2C#32, 0x30#32].map (fun o => csrValue o { State.reset with imei := imeiOf identity }) =
      [0x38363337#32, 0x31393036#32, 0x35303834#32, 0x32323100#32] := by decide

/-- P2's end state: HDRINFO = 0x0101018E; `rd 0x38` is 0; ERRINFO of P3 is 0x0000B402. -/
theorem test_csr_values :
    csrValue 0x1C#32 { State.reset with recDone := 1#8, nrec2 := 1#8, nrec := 1#8, codec := 0x8E#8 } =
      0x0101018E#32 ∧
    csrValue 0x38#32 loaded = 0#32 ∧
    csrValue 0x10#32 { State.reset with err := 2#3, errUop := 0xB4#8 } = 0x0000B402#32 := by decide

/-- P1's end: STATUS = 0x000032F0 but for OUTQ_FULL, which an empty queue never shows. -/
theorem test_status_done : csrStatus (at_ 0x1E#5 0#3 32 []) = 0x000032F0#32 := by decide

/-- V-HOST: PARAM is 0x0001xx14. -/
theorem test_param : csrParam.extractLsb' 16 16 = 0x0001#16 ∧ csrParam.extractLsb' 0 8 = 0x14#8 := by
  have h : ∀ x : BitVec 8, (0x0001#16 ++ x ++ 20#8).extractLsb' 16 16 = 0x0001#16 ∧
      (0x0001#16 ++ x ++ 20#8).extractLsb' 0 8 = 0x14#8 := by decide +kernel
  exact h _

/-- R213: END_ERR makes the consumer drop what it held. -/
theorem test_pop_end_err :
    (after (step { State.reset with
      agenda := [.pop], outq := [tokenOfWord 0xF80000000000005F0000B402#96],
      partialFrame := [tokenOfWord 0x18000000000000020000000F#96] })).map
      (fun t => (t.outq, t.partialFrame, t.frames)) = some ([], [], []) := by decide

/-- R78, R200: an engine step between host moves. -/
theorem test_engine_move :
    (after (step { at_ 0x09#5 0#3 35 [0x01] with agenda := [.engine, .pop] })).map
      (fun t => (t.outq.map tokenWord, t.agenda)) = some ([0x480000000000000000000001#96], [.pop]) := by decide

/-! ## Converters and notations -/

/-- V-COORD, binary64 column. -/
theorem test_coord_binary64 :
    coordBinary64 0x00000000#32 = 0x0000000000000000#64 ∧ coordBinary64 0x00000001#32 = 0x3E7AD7F29ABCAF48#64 ∧
    coordBinary64 0x05F5E100#32 = 0x4024000000000000#64 ∧ coordBinary64 0x3FAAD25F#32 = 0x405AB438A9295996#64 ∧
    coordBinary64 0x7FFFFFFF#32 = 0x406AD7F29A86FF63#64 ∧ coordBinary64 0x80000001#32 = 0xC06AD7F29A514F7E#64 := by
  decide +kernel

/-- V-COORD, the lower half. -/
theorem test_coord_binary64_negative :
    coordBinary64 0x80000000#32 = 0xC06AD7F29A86FF63#64 ∧ coordBinary64 0xFA0A1EFF#32 = 0xC024000000000000#64 ∧
    coordBinary64 0xFC3CAD10#32 = 0xC01940C1F5D93591#64 ∧ coordBinary64 0xFFFFFFFE#32 = 0xBE7AD7F29ABCAF48#64 ∧
    coordBinary64 0xFFFFFFFF#32 = 0x8000000000000000#64 := by decide +kernel

/-- V-COORD, the column COORD in units of 10^−7. -/
theorem test_coord_units :
    coordUnits 0x3FAAD25F#32 = 1068159583 ∧ coordUnits 0x80000000#32 = -2147483647 ∧
    coordUnits 0xFC3CAD10#32 = -63132399 ∧ coordUnits 0xFFFFFFFF#32 = 0 := by decide

/-- R106: the text of P1's first token. -/
theorem test_token_text :
    tokenText (tokenOfWord 0x18000000000000020000000F#96) = "18/00/0000/000000020000000F".toList := by decide

/-- P1's bytes. -/
def p1Bytes : List Byte :=
  [0x00, 0x0F] ++ identity ++
    [0x00, 0x00, 0x00, 0x00, 0x00, 0x00, 0x00, 0x03, 0x8E, 0x00, 0x00, 0x00, 0x00, 0xC7, 0xCF]

/-- P1's Frame. -/
def p1Frame : Frame :=
  { imei := imeiOf identity, flen := 3#32, codec := 0x8E#8, nrec := 0#8, records := [], nrec2 := 0#8,
    crc := 0x0000C7CF#32 }

theorem test_decode_p1 : decodeFrame p1Bytes = .ok (p1Frame, 32) := by decide

/-- P1's seven tokens. -/
theorem test_tokens_p1 :
    (frameTokens p1Frame).map tokenWord =
      [0x18000000000000020000000F#96, 0x280000000000000000000003#96, 0x30000000000000000000008E#96,
       0x380000000000000000000000#96, 0xB80000000000000000000000#96, 0xC0000000000000000000C7CF#96,
       0xF00000000000000000000020#96] := by decide

theorem test_rebuild_p1 : rebuild (writeBytes [] 0 p1Bytes) (frameTokens p1Frame) = some p1Frame := by decide

/-- P1 at DONE, some tokens popped, the rest with END_OK still queued, behind them a token frame of an earlier decode. -/
def p1Done : State :=
  { at_ 0x1E#5 0#3 32 [] with
    flen := 3#32, codec := 0x8E#8, crc := 0x0000C7CF#32, imei := imeiOf identity,
    outq := (frameTokens p1Frame).drop 5, partialFrame := (frameTokens p1Frame).take 5,
    frames := [[endOkToken 0#8 true 9#32]] }

/-- R212: the result is this decode's token frame, not the earlier one; P1's end state gives the CSRs. -/
theorem test_result_at_done :
    resultTokens p1Done = some (frameTokens p1Frame) ∧
    resultFrame (writeBytes [] 0 p1Bytes) p1Done = some p1Frame ∧
    (resultCsrs p1Done).map (fun c => (c.hdrinfo, c.flen, c.crc, c.imei0, c.imei3)) =
      some (0x0000008E#32, 3#32, 0x0000C7CF#32, 0x38363337#32, 0x32323100#32) := by decide

/-- R212: nothing is a result while DONE = 0. -/
theorem test_no_result_before_done :
    resultTokens { p1Done with state := 0x18#5 } = none ∧ resultCsrs { p1Done with state := 0x18#5 } = none ∧
    resultFrame [] { p1Done with state := 0x1F#5 } = none := by decide

/-! ## Witnesses: one per statement with hypotheses, one per clause -/

theorem witness_DecodeEncodeRoundTrip :
    Instr.varData.wf = true ∧ (Instr.start 0xFFFFFFFF#32).wf = true ∧ (Instr.start 0x1#32).wf = true ∧
    (Instr.clear 0x2#32).wf = true ∧ (Instr.clear 0xFFFFFFFE#32).wf = true := by decide

/-- Each line of R103 at both its ends, and the live words beside them. -/
theorem witness_EveryUopIsOneRowOrReserved :
    decodeUop 0x95#8 = .error .grpCntClass ∧ decodeUop 0x97#8 = .error .grpCntClass ∧
    decodeUop 0x9D#8 = .error .entIdClass ∧ decodeUop 0x9F#8 = .error .entIdClass ∧
    decodeUop 0xA4#8 = .error .entValClass ∧ decodeUop 0xA7#8 = .error .entValClass ∧
    decodeUop 0xA8#8 = .error .varLenClass ∧ decodeUop 0xAB#8 = .error .varLenClass ∧
    decodeUop 0xAD#8 = .error .varLenClass ∧ decodeUop 0xAF#8 = .error .varLenClass ∧
    decodeUop 0xB0#8 = .error .varDataClass ∧ decodeUop 0xB3#8 = .error .varDataClass ∧
    decodeUop 0xB5#8 = .error .varDataClass ∧ decodeUop 0xB7#8 = .error .varDataClass ∧
    decodeUop 0xC8#8 = .error .reservedState ∧ decodeUop 0xEF#8 = .error .reservedState ∧
    decodeUop 0x94#8 = .ok .grpCntX ∧ decodeUop 0x98#8 = .ok .entId1 ∧ decodeUop 0xA3#8 = .ok .entVal8 ∧
    decodeUop 0xAC#8 = .ok .varLen ∧ decodeUop 0xB4#8 = .ok .varData ∧ decodeUop 0xC7#8 = .ok .ftrCrc ∧
    decodeUop 0xF0#8 = .ok .done := by decide

theorem witness_StepRunsTheDecodedInstruction :
    decodeUop (uop (at_ 0x16#5 4#3 0 [])) = .ok .varData ∧ (at_ 0x16#5 4#3 0 []).agenda = [] ∧
    { at_ 0x16#5 4#3 0 [] with agenda := [.engine] }.agenda = .engine :: [] ∧
    { at_ 0x16#5 4#3 0 [] with agenda := [.pop, .reset] }.agenda = .pop :: [.reset] ∧
    decodeCtrl 0x3#32 = .ok (.start 0x3#32) ∧
    (writesCtrl 0x3#32 loaded).agenda = .csrWrite Csr.ctrl allLanes 0x3#32 :: [] := by decide

theorem witness_StepRunsThePlacedWord :
    decodeTableWord 8 2 = some (.clear 2#32) ∧ isCommandWord 8 2 = true ∧
    decodeTableWord 8 0xFF = some .error ∧ isCommandWord 8 0xFF = false := by decide

theorem witness_ReservedUopHasNoSuccessor :
    decodeUop (uop (at_ 0x14#5 4#3 0 [])) = .error .entValClass ∧ (at_ 0x14#5 4#3 0 []).agenda = [] ∧
    { at_ 0x14#5 4#3 0 [] with agenda := [.engine, .pop] }.agenda = .engine :: [.pop] := by decide

theorem witness_ResetStateIsTheTable :
    (busy State.reset = false ∧ State.reset.len.toNat ≤ Config.maxLen ∧
      ∀ a, a < State.reset.len.toNat → a ∈ State.reset.written) ∧
    busy (at_ 0x1E#5 4#3 107 []) = false :=
  ⟨⟨by decide, Nat.zero_le _, by decide⟩, by decide⟩

/-- ENT_VAL.1 of the last of 65535 entries of the last of 255 records, on the last byte of a frame. -/
def entryAtBounds : State :=
  { at_ 0x14#5 0#3 31 [0xFF] with
    buf := writeBytes [] 0 (List.replicate 32 0xFF), written := List.range 32, nrec := 255#8, recDone := 254#8,
    sumk := 65535#19, k := 65535#16, idx := 65534#16 }

theorem witness_Invariant_entry : Invariant entryAtBounds where
  bufWf := by decide
  writtenHeld := by decide
  queueBound := Nat.zero_le _
  posLe := by decide
  clsLe := by decide
  recDoneLe := by decide
  idxLt := by decide
  sumkLe := by decide
  uopLive := ⟨.entVal1, by decide⟩
  loaded := fun _ => ⟨maxLen_ge, by decide⟩
  recOpen := by decide
  recAll := by decide
  headerRec := by decide
  headerPos := by decide
  lenChecked := by decide
  sumkGroups := by decide
  sumkEntries := by decide
  errClear := by decide
  errSet := by decide
  imeiAscii := by decide
  idleCls := by decide

/-- A header step `c` of a frame of `n` bytes, at its own offset. -/
def headerAt (c : BitVec 5) (n : Nat) (b : Byte) : State :=
  { State.reset with
    state := c, pos := BitVec.ofNat 32 (headerOffset c), len := BitVec.ofNat 32 n,
    buf := writeBytes [] 0 (List.replicate n b), written := List.range n }

theorem witness_Invariant_lenChk : Invariant (headerAt 0x01#5 19 0x7F) where
  bufWf := by decide
  writtenHeld := by decide
  queueBound := Nat.zero_le _
  posLe := by decide
  clsLe := by decide
  recDoneLe := by decide
  idxLt := by decide
  sumkLe := by decide
  uopLive := ⟨.lenChk, by decide⟩
  loaded := fun _ => ⟨Nat.le_trans (by decide) maxLen_ge, by decide⟩
  recOpen := by decide
  recAll := by decide
  headerRec := by decide
  headerPos := by decide
  lenChecked := by decide
  sumkGroups := by decide
  sumkEntries := by decide
  errClear := by decide
  errSet := by decide
  imeiAscii := by decide
  idleCls := by decide

theorem witness_Invariant_hdrImei : Invariant (headerAt 0x03#5 20 0x80) where
  bufWf := by decide
  writtenHeld := by decide
  queueBound := Nat.zero_le _
  posLe := by decide
  clsLe := by decide
  recDoneLe := by decide
  idxLt := by decide
  sumkLe := by decide
  uopLive := ⟨.hdrImei, by decide⟩
  loaded := fun _ => ⟨Nat.le_trans (by decide) maxLen_ge, by decide⟩
  recOpen := by decide
  recAll := by decide
  headerRec := by decide
  headerPos := by decide
  lenChecked := by decide
  sumkGroups := by decide
  sumkEntries := by decide
  errClear := by decide
  errSet := by decide
  imeiAscii := by decide
  idleCls := by decide

theorem witness_Invariant_hdrZero : Invariant (headerAt 0x04#5 20 0x7F) where
  bufWf := by decide
  writtenHeld := by decide
  queueBound := Nat.zero_le _
  posLe := by decide
  clsLe := by decide
  recDoneLe := by decide
  idxLt := by decide
  sumkLe := by decide
  uopLive := ⟨.hdrZero, by decide⟩
  loaded := fun _ => ⟨Nat.le_trans (by decide) maxLen_ge, by decide⟩
  recOpen := by decide
  recAll := by decide
  headerRec := by decide
  headerPos := by decide
  lenChecked := by decide
  sumkGroups := by decide
  sumkEntries := by decide
  errClear := by decide
  errSet := by decide
  imeiAscii := by decide
  idleCls := by decide

theorem witness_EveryStepKeepsInv : Invariant entryAtBounds ∧ (after (step entryAtBounds)).isSome = true :=
  ⟨witness_Invariant_entry, by decide⟩

theorem witness_EveryStepKeepsBufForm :
    Memory.wf entryAtBounds.buf ∧
    (after (step { entryAtBounds with state := 0x1E#5, agenda := [.bufWrite 0 [0x00]] })).isSome = true := by decide

theorem witness_EngineTurnNeverStops : Invariant entryAtBounds := witness_Invariant_entry

theorem witness_PosStaysWithinLen :
    Invariant entryAtBounds ∧ entryAtBounds.pos.toNat ≤ entryAtBounds.len.toNat ∧
    (∀ lanes v rest, entryAtBounds.agenda ≠ .csrWrite Csr.len lanes v :: rest) ∧
    (after (step entryAtBounds)).isSome = true :=
  ⟨witness_Invariant_entry, by decide, fun _ _ _ => by simp [entryAtBounds, at_, State.reset], by decide⟩

theorem witness_ShortReadRaisesTruncatedFrame :
    Instr.recTs ∈ readingRows ∧
    (at_ 0x08#5 0#3 27 [0, 0, 0, 0, 0, 0, 0]).len.toNat <
      (at_ 0x08#5 0#3 27 [0, 0, 0, 0, 0, 0, 0]).pos.toNat + readWidth .recTs (at_ 0x08#5 0#3 27 [0, 0, 0, 0, 0, 0, 0]) ∧
    hasRoom 1 (at_ 0x08#5 0#3 27 [0, 0, 0, 0, 0, 0, 0]) = true := by decide

/-- A full OUTQ, or one that is over-full by `n`. -/
def overFull (n : Nat) (s : State) : State :=
  { s with outq := List.replicate (Config.outDepth + n) (endErrToken 0#8 0#32 0#8 1#3) }

theorem hasRoom_overFull (t n : Nat) (h : 0 < t + n) (s : State) : hasRoom t (overFull n s) = false := by
  simp [hasRoom, overFull]
  omega

theorem witness_HoldChangesNothing_success :
    Instr.ftrCrc ∈ readingRows ∧
    (overFull 0 p2Crc).pos.toNat + readWidth .ftrCrc (overFull 0 p2Crc) ≤ (overFull 0 p2Crc).len.toNat ∧
    hasRoom (successTokens .ftrCrc) (overFull 0 p2Crc) = false :=
  ⟨by decide, by decide, hasRoom_overFull 2 0 (by decide) p2Crc⟩

theorem witness_HoldChangesNothing_error :
    Instr.entId1 ∈ readingRows ∧
    (overFull 0 (at_ 0x13#5 0#3 60 [])).len.toNat <
      (overFull 0 (at_ 0x13#5 0#3 60 [])).pos.toNat + readWidth .entId1 (overFull 0 (at_ 0x13#5 0#3 60 [])) ∧
    hasRoom 1 (overFull 0 (at_ 0x13#5 0#3 60 [])) = false :=
  ⟨by decide, by decide, hasRoom_overFull 1 0 (by decide) _⟩

theorem witness_HoldChangesNothing_lenChk :
    ((overFull 0 (headerAt 0x01#5 19 0)).len.toNat < 20 ∧ hasRoom 1 (overFull 0 (headerAt 0x01#5 19 0)) = false) ∧
    (20 ≤ (overFull 1 (headerAt 0x01#5 20 0)).len.toNat ∧ hasRoom 0 (overFull 1 (headerAt 0x01#5 20 0)) = false) :=
  ⟨⟨by decide, hasRoom_overFull 1 0 (by decide) _⟩, by decide, hasRoom_overFull 0 1 (by decide) _⟩

theorem witness_HoldChangesNothing_empty : p2Crc.outq = [] := rfl

theorem witness_ErrorEntryIsPrecise : hasRoom 1 (at_ 0x16#5 4#3 95 [0xAA, 0xBB]) = true := by decide

theorem witness_LenChkTestsTheMinimumLength :
    ((headerAt 0x01#5 19 0).len.toNat < 20 ∧ hasRoom 1 (headerAt 0x01#5 19 0) = true) ∧
    (20 ≤ (headerAt 0x01#5 20 0).len.toNat ∧ hasRoom 0 (headerAt 0x01#5 20 0) = true) := by decide

theorem witness_HdrImeiRaisesInvalidEncoding :
    Ready .hdrImei (headerAt 0x03#5 20 0x80) (List.replicate 15 0x80) ∧
    ∃ b ∈ List.replicate 15 (0x80 : Byte), 0x80 ≤ b.toNat :=
  ⟨⟨by decide, by decide, by decide⟩, by decide⟩

/-- One state for each error kind. -/
theorem witness_EachStepRaisesOnlyItsErrors :
    (Invariant (headerAt 0x01#5 19 0x7F) ∧ decodeUop (uop (headerAt 0x01#5 19 0x7F)) = .ok .lenChk ∧
      (after (exec .lenChk (headerAt 0x01#5 19 0x7F))).map errorFlag = some true) ∧
    (Invariant (headerAt 0x04#5 20 0x7F) ∧ decodeUop (uop (headerAt 0x04#5 20 0x7F)) = .ok .hdrZero ∧
      (after (exec .hdrZero (headerAt 0x04#5 20 0x7F))).map errorFlag = some true) ∧
    (Invariant (headerAt 0x03#5 20 0x80) ∧ decodeUop (uop (headerAt 0x03#5 20 0x80)) = .ok .hdrImei ∧
      (after (exec .hdrImei (headerAt 0x03#5 20 0x80))).map errorFlag = some true) ∧
    errorFlag (headerAt 0x01#5 19 0x7F) = false ∧ errorFlag (headerAt 0x04#5 20 0x7F) = false ∧
    errorFlag (headerAt 0x03#5 20 0x80) = false :=
  ⟨⟨witness_Invariant_lenChk, by decide, by decide⟩, ⟨witness_Invariant_hdrZero, by decide, by decide⟩,
    ⟨witness_Invariant_hdrImei, by decide, by decide⟩, by decide, by decide, by decide⟩

theorem witness_HdrImeiStoresTheIdentity :
    Ready .hdrImei (at_ 0x03#5 0#3 2 (List.replicate 15 0x7F)) (List.replicate 15 0x7F) ∧
    ∀ b ∈ List.replicate 15 (0x7F : Byte), b.toNat < 0x80 :=
  ⟨⟨by decide, by decide, by decide⟩, by decide⟩

theorem witness_HeaderFieldsAreRead :
    Ready .hdrPre (at_ 0x02#5 0#3 0 [0xFF, 0xFF]) [0xFF, 0xFF] ∧
    Ready .hdrZero (at_ 0x04#5 0#3 17 [0xFF, 0xFF, 0xFF, 0xFF]) [0xFF, 0xFF, 0xFF, 0xFF] ∧
    Ready .hdrFlen (at_ 0x05#5 0#3 21 [0xFF, 0xFF, 0xFF, 0xFF]) [0xFF, 0xFF, 0xFF, 0xFF] ∧
    Ready .hdrCodec (at_ 0x06#5 0#3 25 [0xFF]) [0xFF] ∧
    Ready .hdrNrec (at_ 0x07#5 0#3 26 [0x00]) [0x00] ∧
    Ready .hdrNrec (at_ 0x07#5 0#3 26 [0xFF]) [0xFF] := by
  refine ⟨?_, ?_, ?_, ?_, ?_, ?_⟩ <;> exact ⟨by decide, by decide, by decide⟩

theorem witness_RecordScalarsAreEmitted :
    Ready .recTs (at_ 0x08#5 0#3 27 (List.replicate 8 0xFF)) (List.replicate 8 0xFF) ∧
    Ready .recPrio (at_ 0x09#5 0#3 35 [0xFF]) [0xFF] ∧
    Ready .recAlt (at_ 0x0C#5 0#3 44 [0xFF, 0xFF]) [0xFF, 0xFF] ∧
    Ready .recAng (at_ 0x0D#5 0#3 46 [0xFF, 0xFF]) [0xFF, 0xFF] ∧
    Ready .recSat (at_ 0x0E#5 0#3 48 [0xFF]) [0xFF] ∧
    Ready .recSpd (at_ 0x0F#5 0#3 49 [0xFF, 0xFF]) [0xFF, 0xFF] := by
  refine ⟨?_, ?_, ?_, ?_, ?_, ?_⟩ <;> exact ⟨by decide, by decide, by decide⟩

theorem witness_CoordinatesAreEmittedWithSignAndMagnitude :
    Ready .recLon (at_ 0x0A#5 0#3 36 [0xFF, 0xFF, 0xFF, 0xFF]) [0xFF, 0xFF, 0xFF, 0xFF] ∧
    Ready .recLat (at_ 0x0B#5 0#3 40 [0x00, 0x00, 0x00, 0x00]) [0x00, 0x00, 0x00, 0x00] := by
  refine ⟨?_, ?_⟩ <;> exact ⟨by decide, by decide, by decide⟩

theorem witness_EventIdAndTotalAreRead :
    Ready .ioEvid (at_ 0x10#5 0#3 51 [0xFF, 0xFF]) [0xFF, 0xFF] ∧
    Ready .ioTotal (at_ 0x11#5 4#3 53 [0xFF, 0xFF]) [0xFF, 0xFF] := by
  refine ⟨?_, ?_⟩ <;> exact ⟨by decide, by decide, by decide⟩

theorem witness_GroupCountsAreRead_entries :
    Ready .grpCnt1 (at_ 0x12#5 0#3 55 [0xFF, 0xFF]) [0xFF, 0xFF] ∧
    Ready .grpCnt2 (at_ 0x12#5 1#3 55 [0xFF, 0xFF]) [0xFF, 0xFF] ∧
    Ready .grpCnt4 (at_ 0x12#5 2#3 55 [0xFF, 0xFF]) [0xFF, 0xFF] ∧
    Ready .grpCnt8 (at_ 0x12#5 3#3 55 [0xFF, 0xFF]) [0xFF, 0xFF] ∧
    Ready .grpCntX (at_ 0x12#5 4#3 55 [0xFF, 0xFF]) [0xFF, 0xFF] := by
  refine ⟨?_, ?_, ?_, ?_, ?_⟩ <;> exact ⟨by decide, by decide, by decide⟩

theorem witness_GroupCountsAreRead_empty :
    Ready .grpCnt1 (at_ 0x12#5 0#3 55 [0x00, 0x00]) [0x00, 0x00] ∧
    Ready .grpCnt2 (at_ 0x12#5 1#3 55 [0x00, 0x00]) [0x00, 0x00] ∧
    Ready .grpCnt4 (at_ 0x12#5 2#3 55 [0x00, 0x00]) [0x00, 0x00] ∧
    Ready .grpCnt8 (at_ 0x12#5 3#3 55 [0x00, 0x00]) [0x00, 0x00] ∧
    Ready .grpCntX (at_ 0x12#5 4#3 55 [0x00, 0x00]) [0x00, 0x00] := by
  refine ⟨?_, ?_, ?_, ?_, ?_⟩ <;> exact ⟨by decide, by decide, by decide⟩

theorem witness_EntryIdsAndLengthsAreRead :
    Ready .entId1 (at_ 0x13#5 0#3 57 [0xFF, 0xFF]) [0xFF, 0xFF] ∧
    Ready .entId2 (at_ 0x13#5 1#3 57 [0xFF, 0xFF]) [0xFF, 0xFF] ∧
    Ready .entId4 (at_ 0x13#5 2#3 57 [0xFF, 0xFF]) [0xFF, 0xFF] ∧
    Ready .entId8 (at_ 0x13#5 3#3 57 [0xFF, 0xFF]) [0xFF, 0xFF] ∧
    Ready .entIdX (at_ 0x13#5 4#3 57 [0xFF, 0xFF]) [0xFF, 0xFF] ∧
    Ready .varLen (at_ 0x15#5 4#3 59 [0xFF, 0xFF]) [0xFF, 0xFF] := by
  refine ⟨?_, ?_, ?_, ?_, ?_, ?_⟩ <;> exact ⟨by decide, by decide, by decide⟩

theorem witness_EntryValuesAreEmitted_last :
    Ready .entVal1 { at_ 0x14#5 0#3 59 [0xFF] with k := 1#16 } [0xFF] ∧
    Ready .entVal2 { at_ 0x14#5 1#3 59 [0xFF, 0xFF] with k := 1#16 } [0xFF, 0xFF] ∧
    Ready .entVal4 { at_ 0x14#5 2#3 59 [0xFF, 0xFF, 0xFF, 0xFF] with k := 1#16 } [0xFF, 0xFF, 0xFF, 0xFF] ∧
    Ready .entVal8 { at_ 0x14#5 3#3 59 (List.replicate 8 0xFF) with k := 1#16 } (List.replicate 8 0xFF) := by
  refine ⟨?_, ?_, ?_, ?_⟩ <;> exact ⟨by decide, by decide, by decide⟩

theorem witness_EntryValuesAreEmitted_more :
    Ready .entVal1 { at_ 0x14#5 0#3 59 [0xFF] with k := 65535#16 } [0xFF] ∧
    Ready .entVal2 { at_ 0x14#5 1#3 59 [0xFF, 0xFF] with k := 65535#16 } [0xFF, 0xFF] ∧
    Ready .entVal4 { at_ 0x14#5 2#3 59 [0xFF, 0xFF, 0xFF, 0xFF] with k := 65535#16 } [0xFF, 0xFF, 0xFF, 0xFF] ∧
    Ready .entVal8 { at_ 0x14#5 3#3 59 (List.replicate 8 0xFF) with k := 65535#16 } (List.replicate 8 0xFF) := by
  refine ⟨?_, ?_, ?_, ?_⟩ <;> exact ⟨by decide, by decide, by decide⟩

/-- N = 0 and N = 1, each with another entry to follow and as the last entry. -/
theorem witness_VarDataIsDeliveredByReference :
    Ready .varData { at_ 0x16#5 4#3 102 [] with k := 2#16 } [] ∧
    ({ at_ 0x16#5 4#3 102 [] with k := 2#16 } : State).idx.toNat + 1 ≠
      ({ at_ 0x16#5 4#3 102 [] with k := 2#16 } : State).k.toNat ∧
    Ready .varData { at_ 0x16#5 4#3 102 [0xFF] with k := 1#16, n := 1#16 } [0xFF] ∧
    ({ at_ 0x16#5 4#3 102 [0xFF] with k := 1#16, n := 1#16 } : State).idx.toNat + 1 =
      ({ at_ 0x16#5 4#3 102 [0xFF] with k := 1#16, n := 1#16 } : State).k.toNat :=
  ⟨⟨by decide, by decide, by decide⟩, by decide, ⟨by decide, by decide, by decide⟩, by decide⟩

theorem witness_FooterStepsComplete_nrec2 : Ready .ftrNrec2 (at_ 0x17#5 0#3 27 [0x05]) [0x05] :=
  ⟨by decide, by decide, by decide⟩

/-- START at LEN = 0 and at LEN = 32, the longest that every MAX_LEN allows; CLEAR. -/
theorem witness_CommandsClearAndGo :
    (busy State.reset = false ∧ State.reset.len.toNat ≤ Config.maxLen ∧
      ∀ a, a < State.reset.len.toNat → a ∈ State.reset.written) ∧
    (busy loaded = false ∧ loaded.len.toNat ≤ Config.maxLen ∧ ∀ a, a < loaded.len.toNat → a ∈ loaded.written) ∧
    busy (at_ 0x1F#5 4#3 95 []) = false :=
  ⟨⟨by decide, Nat.zero_le _, by decide⟩, ⟨by decide, maxLen_ge, by decide⟩, by decide⟩

theorem witness_CtrlWriteOrder :
    (busy (writesCtrl 0x7#32 { loaded with state := 0x01#5 }) = true) ∧
    (busy (writesCtrl 0x3#32 loaded) = false ∧ (0x3#32).getLsbD 0 = true ∧
      (writesCtrl 0x3#32 loaded).len.toNat ≤ Config.maxLen ∧
      ∀ a, a < (writesCtrl 0x3#32 loaded).len.toNat → a ∈ (writesCtrl 0x3#32 loaded).written) ∧
    (busy (writesCtrl 0x6#32 loaded) = false ∧ (0x6#32).getLsbD 0 = false ∧ (0x6#32).getLsbD 1 = true) ∧
    (busy (writesCtrl 0x4#32 loaded) = false ∧ (0x4#32).getLsbD 0 = false ∧ (0x4#32).getLsbD 1 = false) ∧
    (writesCtrl 0x4#32 loaded).agenda = .csrWrite Csr.ctrl allLanes 0x4#32 :: [] :=
  ⟨by decide, ⟨by decide, by decide, maxLen_ge, by decide⟩, by decide, by decide, by decide⟩

/-- A host move next. -/
def moves (m : Move) (s : State) : State := { s with agenda := [m] }

theorem witness_LenWriteIsIgnoredWhileBusy :
    (moves (.csrWrite 0x08#32 0xF#4 5#32) loaded).agenda = .csrWrite Csr.len allLanes 5#32 :: [] ∧
    busy (moves (.csrWrite 0x08#32 0xF#4 5#32) loaded) = false ∧
    busy (moves (.csrWrite 0x08#32 0xF#4 5#32) { loaded with state := 0x18#5 }) = true := by decide

theorem witness_WritesToReadOnlyRegistersAreIgnored :
    (moves (.csrWrite 0x04#32 0xF#4 1#32) loaded).agenda = .csrWrite 0x04#32 allLanes 1#32 :: [] ∧
    (0x04#32).toNat % 4 = 0 ∧ 0x04#32 ≠ 0x00#32 ∧ 0x04#32 ≠ 0x08#32 ∧
    (0xFFFFFFFC#32).toNat % 4 = 0 ∧ 0xFFFFFFFC#32 ≠ 0x00#32 ∧ 0xFFFFFFFC#32 ≠ 0x08#32 := by decide

theorem witness_CsrReadHasNoSideEffect :
    (moves (.csrRead 0x34#32 0xF#4) loaded).agenda = .csrRead 0x34#32 allLanes :: [] ∧ (0x34#32).toNat % 4 = 0 ∧
    (moves (.csrRead 0x38#32 0xF#4) loaded).agenda = .csrRead 0x38#32 allLanes :: [] ∧ (0x38#32).toNat % 4 = 0 := by
  decide

theorem witness_CsrValuesAreTheFields : 0x38 ≤ (0x38#32).toNat ∧ 0x38 ≤ (0xFFFFFFFF#32).toNat := by decide

theorem witness_PopTakesTheHeadToken :
    (moves .pop loaded).agenda = .pop :: [] ∧ (moves .pop loaded).outq = [] ∧
    (endOkToken 0#8 false 32#32).tag = 0xF0#8 ∧ (endErrToken 0#8 0#32 0#8 1#3).tag = 0xF8#8 ∧
    (fieldToken .ftrCrc 0#8 0#16 0#64).tag ≠ 0xF0#8 ∧ (fieldToken .ftrCrc 0#8 0#16 0#64).tag ≠ 0xF8#8 ∧
    (moves .pop { loaded with outq := [endOkToken 0#8 false 32#32] }).outq = endOkToken 0#8 false 32#32 :: [] := by
  decide

theorem witness_BufWriteStoresItsBytes :
    (moves (.bufWrite 31 [0xFF]) loaded).agenda = .bufWrite 31 [0xFF] :: [] ∧
    busy (moves (.bufWrite 31 [0xFF]) loaded) = false ∧ 31 + [(0xFF : Byte)].length ≤ Config.maxLen ∧
    Config.maxLen < Config.maxLen + [(0xFF : Byte)].length :=
  ⟨by decide, by decide, maxLen_ge, Nat.lt_succ_self _⟩

/-- LEN above MAX_LEN exists unless MAX_LEN is the greatest that R5 allows. -/
theorem witness_RefusalsTheSpecAsksFor :
    (0x02#32).toNat % 4 ≠ 0 ∧ (0x7#4 : BitVec 4) ≠ 0xF#4 ∧
    (moves (.csrWrite 0x02#32 0xF#4 1#32) loaded).agenda = .csrWrite 0x02#32 0xF#4 1#32 :: [] ∧
    (moves (.csrRead 0x04#32 0x7#4) loaded).agenda = .csrRead 0x04#32 0x7#4 :: [] ∧
    busy (moves (.bufWrite 0 []) { loaded with state := 0x01#5 }) = true ∧
    (Config.maxLen ≠ 0xFFFFFFFF → busy { loaded with len := 0xFFFFFFFF#32 } = false ∧
      Config.maxLen < ({ loaded with len := 0xFFFFFFFF#32 } : State).len.toNat) ∧
    (busy { loaded with written := List.range 31 } = false ∧
      ({ loaded with written := List.range 31 } : State).len.toNat ≤ Config.maxLen ∧
      ∃ a, a < ({ loaded with written := List.range 31 } : State).len.toNat ∧
        a ∉ ({ loaded with written := List.range 31 } : State).written) :=
  ⟨by decide, by decide, by decide, by decide, by decide,
    fun h => ⟨by decide, Nat.lt_of_le_of_ne (Nat.le_of_lt_succ maxLen_lt) h⟩, by decide, maxLen_ge, 31, by decide⟩

theorem witness_InterruptLineIsLevel :
    busy loaded = false ∧ (after (exec (.start 0x5#32) loaded)).isSome = true ∧
    (after (exec (.clear 0x6#32) loaded)).isSome = true ∧ (0x3#32).getLsbD 2 = false ∧
    (after (readCsr 0x04#32 0xF#4 (at_ 0x1E#5 0#3 32 []))).isSome = true := by decide

theorem witness_ResetMoveResetsTheBlock : (moves .reset entryAtBounds).agenda = .reset :: [] := by decide

theorem witness_EngineNeverWritesTheHostsSide :
    Instr.varLen ∈ uopRows ∧ (after (exec .varLen (at_ 0x15#5 4#3 93 [0x00, 0x03]))).isSome = true := by decide

/-- Each header step answers a next state, on success and on an error. -/
theorem witness_HeaderStepsFrame :
    ∀ i ∈ [Instr.idle, .lenChk, .hdrPre, .hdrImei, .hdrZero, .hdrFlen, .hdrCodec, .hdrNrec],
      (after (exec i (headerAt 0x03#5 20 0x80))).isSome = true ∧ (after (exec i (headerAt 0x03#5 20 0x7F))).isSome = true := by
  decide

theorem witness_RecordStepsFrame :
    ∀ i ∈ [Instr.recTs, .recPrio, .recLon, .recLat, .recAlt, .recAng, .recSat, .recSpd, .ioEvid],
      (after (exec i (at_ 0x08#5 0#3 27 [0, 0, 0, 0, 0, 0, 0, 0]))).isSome = true ∧
      (after (exec i (at_ 0x08#5 0#3 27 []))).isSome = true := by decide

theorem witness_IoElementStepsFrame :
    ∀ i ∈ [Instr.ioTotal, .grpCnt1, .grpCnt2, .grpCnt4, .grpCnt8, .grpCntX, .entId1, .entId2, .entId4, .entId8,
        .entIdX, .entVal1, .entVal2, .entVal4, .entVal8, .varLen, .varData],
      (after (exec i (at_ 0x12#5 4#3 55 [0, 0, 0, 0, 0, 0, 0, 0]))).isSome = true := by decide

theorem witness_FooterStepsFrame :
    ∀ i ∈ [Instr.ftrNrec2, .done, .error], (after (exec i (at_ 0x17#5 0#3 27 [0]))).isSome = true := by decide

theorem witness_CommandsFrame :
    (after (exec (.start 0x1#32) { loaded with state := 0x18#5 })).isSome = true ∧
    (after (exec (.clear 0x2#32) loaded)).isSome = true := by decide

theorem witness_EngineStepsOnlyAppendTokens :
    Instr.ftrCrc ∈ uopRows ∧ p2Crc.outq.length ≤ Config.outDepth ∧ (after (exec .ftrCrc p2Crc)).isSome = true := by
  refine ⟨by decide, Nat.zero_le _, ?_⟩
  show (after (execFtrCrc p2Crc)).isSome = true
  unfold execFtrCrc
  rw [extract_ready _ witness_FooterStepsComplete_crc]
  decide

theorem witness_PosAdvancesByTheReadWidth :
    Instr.hdrImei ∈ uopRows ∧ (after (exec .hdrImei (headerAt 0x03#5 17 0x7F))).isSome = true := by decide

theorem witness_CodecAndFlenSelectNothing :
    Instr.hdrNrec ∈ uopRows ∧ Instr.hdrNrec ≠ .hdrCodec ∧ Instr.hdrNrec ≠ .hdrFlen ∧
    (after (exec .hdrNrec (at_ 0x07#5 0#3 26 [0x01]))).isSome = true := by decide

theorem witness_TotalChangesOnlyTheDiagnostic :
    Instr.grpCntX ∈ uopRows ∧ Instr.grpCntX ≠ .ioTotal ∧
    (after (exec .grpCntX (at_ 0x12#5 4#3 67 [0x00, 0x00]))).isSome = true := by decide

theorem witness_CoordinateConverter :
    (0x7FFFFFFF#32).getLsbD 31 = false ∧ (0x00000000#32).getLsbD 31 = false ∧
    (0x80000000#32).getLsbD 31 = true ∧ (0xFFFFFFFF#32).getLsbD 31 = true := by decide

theorem witness_NoTwosComplementCorrection :
    (0x80000000#32).getLsbD 31 = true ∧ (0xFFFFFFFF#32).getLsbD 31 = true := by decide

/-- A START leaves IDLE, a reset leaves DONE; LEN_CHK and a reset cut BUSY states. -/
theorem witness_OnlyCommandsLeaveRestAndOnlyResetCutsADecode :
    (busy loaded = false ∧ (after (step (writesCtrl 0x1#32 loaded))).map (fun t => t.state) = some 0x01#5) ∧
    (busy (at_ 0x1E#5 0#3 32 []) = false ∧
      (after (step (moves .reset (at_ 0x1E#5 0#3 32 [])))).map (fun t => t.state) = some 0x00#5) ∧
    (busy (headerAt 0x01#5 20 0) = true ∧
      (after (step (headerAt 0x01#5 20 0))).map (fun t => t.state) = some 0x02#5) ∧
    (busy (moves .reset (headerAt 0x01#5 20 0)) = true ∧
      (after (step (moves .reset (headerAt 0x01#5 20 0)))).map (fun t => t.state) = some 0x00#5) := by decide

theorem witness_PlatformBlocksShareNoState :
    (platformStep 1 [State.reset, headerAt 0x01#5 20 0]).isSome = true := by decide

theorem witness_DecodedFramesAreWellFormed : decodeFrame p1Bytes = .ok (p1Frame, 32) := test_decode_p1

theorem witness_ConsumedBytesAreTheFrameSize : decodeFrame p1Bytes = .ok (p1Frame, 32) := test_decode_p1

theorem witness_HeaderTruncationPoints :
    (List.replicate 19 (0x00 : Byte)).length < 20 ∧
    (20 ≤ (List.replicate 20 (0x80 : Byte)).length ∧
      allAscii (((List.replicate 20 (0x80 : Byte)).drop 2).take 15) = false) ∧
    (20 ≤ (List.replicate 20 (0x7F : Byte)).length ∧ (List.replicate 31 (0x7F : Byte)).length < 32 ∧
      allAscii (((List.replicate 31 (0x7F : Byte)).drop 2).take 15) = true) := by decide

theorem witness_TokenFrameRebuildsTheFrame :
    p1Bytes.length < 2 ^ 32 ∧ decodeFrame p1Bytes = .ok (p1Frame, 32) ∧
    ∀ a, a < p1Bytes.length → readByte (writeBytes [] 0 p1Bytes) a = p1Bytes[a]? :=
  ⟨by decide, test_decode_p1, by decide⟩

/-- A frame that decodes and one that does not, from reset. -/
theorem witness_EngineComputesTheReferenceDecode :
    busy State.reset = false ∧ State.reset.outq = [] ∧ State.reset.partialFrame = [] ∧ (0x1#32).getLsbD 0 = true ∧
    p1Bytes.length ≤ Config.maxLen ∧ decodeFrame p1Bytes = .ok (p1Frame, 32) ∧
    (p1Bytes.take 31).length ≤ Config.maxLen ∧ decodeFrame (p1Bytes.take 31) = .error .truncatedFrame :=
  ⟨by decide, by decide, by decide, by decide, maxLen_ge, test_decode_p1, Nat.le_trans (by decide) maxLen_ge, by decide⟩

end Sys2Proof.Tests
end

