-- ==== Sys2Proof/Proofs/Scope.lean ====
section
/-!
PROOFS. What a step does for each move it can take, as an equation, and the statements of 00_scope.md about the step:
it runs the decoded instruction (O5, O6) and has no successor for the engine on a reserved UOP (O7).
-/
namespace Sys2Proof.Machine

/-! ### The step, move by move -/

theorem step_of_agenda_nil {s : State} (h : s.agenda = []) : step s = engineTurn s := by
  unfold step takeTurn
  rw [h]

theorem step_of_engine {s : State} {rest : List Move} (h : s.agenda = .engine :: rest) :
    step s = engineTurn { s with agenda := rest } := by
  unfold step takeTurn
  rw [h]

theorem step_of_csrWrite {s : State} {off : Word} {lanes : BitVec 4} {v : Word} {rest : List Move}
    (h : s.agenda = .csrWrite off lanes v :: rest) : step s = writeCsr off lanes v { s with agenda := rest } := by
  unfold step takeTurn
  rw [h]

theorem step_of_pop {s : State} {rest : List Move} (h : s.agenda = .pop :: rest) : step s = popTurn rest s := by
  unfold step takeTurn
  rw [h]

/-- A pop on an empty OUTQ leaves the turn to the engine (R208; log 6). -/
theorem popTurn_of_outq_nil (rest : List Move) {s : State} (h : s.outq = []) : popTurn rest s = engineTurn s := by
  unfold popTurn
  rw [h]

/-- The engine has no row to run on a reserved UOP (R104). -/
theorem engineTurn_of_reserved {s : State} {r : DecodeReject} (h : decodeUop (uop s) = .error r) :
    engineTurn s = .fault (.reservedUop (uop s)) := by
  unfold engineTurn
  rw [h]

/-! ### A CTRL write -/

theorem writeCtrl_of_decode {v : Word} {i : Instr} (h : decodeCtrl v = .ok i) (s : State) :
    writeCtrl v s = exec i s := by
  unfold writeCtrl
  rw [h]

/-- An aligned word write to CTRL is `writeCtrl`: no other register's rule comes first (R201, R204). -/
theorem writeCsr_ctrl (v : Word) (s : State) : writeCsr Csr.ctrl allLanes v s = writeCtrl v s := by
  have haligned : csrAligned Csr.ctrl allLanes = true := by decide
  unfold writeCsr
  rw [if_pos haligned, if_pos rfl]

theorem step_of_ctrlWrite {s : State} {v : Word} {i : Instr} {rest : List Move} (hd : decodeCtrl v = .ok i)
    (h : s.agenda = .csrWrite Csr.ctrl allLanes v :: rest) : step s = exec i { s with agenda := rest } := by
  rw [step_of_csrWrite h, writeCsr_ctrl, writeCtrl_of_decode hd]

/-! ### A placed word -/

theorem tableEncoding_command {nbits w : Nat} (h : isCommandWord nbits w = true) :
    tableEncoding nbits w = .ctrl (BitVec.ofNat 32 w) := if_pos h

theorem tableEncoding_uop {nbits w : Nat} (h : isCommandWord nbits w = false) :
    tableEncoding nbits w = .uop (BitVec.ofNat 8 w) := if_neg (by simp [h])

theorem decodeTableWord_eq_some {nbits w : Nat} {i : Instr} :
    decodeTableWord nbits w = some i ↔ decode (tableEncoding nbits w) = .ok i := by
  unfold decodeTableWord
  cases decode (tableEncoding nbits w) <;> simp

/-- A UOP is its STATE bits over its CLS bits (R21). -/
theorem extract_state_append_cls (u : BitVec 8) : u.extractLsb' 3 5 ++ u.extractLsb' 0 3 = u :=
  (BitVec.extractLsb'_append_extractLsb'_eq_extractLsb' (rfl : 3 = 0 + 3)).trans BitVec.extractLsb'_eq_self

/-- A CTRL word placed on the agenda is the command the next step runs. -/
theorem step_placeWord_ctrl {v : Word} {i : Instr} (h : decode (.ctrl v) = .ok i) (s : State) :
    step (placeWord (.ctrl v) s) = exec i s :=
  step_of_ctrlWrite h rfl

/-- A UOP placed in {STATE, CLS} is the row the next step runs. -/
theorem step_placeWord_uop {u : BitVec 8} {i : Instr} (h : decode (.uop u) = .ok i) (s : State) :
    step (placeWord (.uop u) s) = exec i { s with state := u.extractLsb' 3 5, cls := u.extractLsb' 0 3 } := by
  have hrow : decodeUop (u.extractLsb' 3 5 ++ u.extractLsb' 0 3) = .ok i := by
    rw [extract_state_append_cls]
    exact h
  rw [step_of_engine rfl]
  exact engineTurn_of_decode hrow

/-! ### The statements -/

/-- Settles O5: each form of the engine's turn reduces to `engineTurn`, and an aligned CTRL write to `writeCtrl`. -/
theorem stepRunsTheDecodedInstruction : Obligations.StepRunsTheDecodedInstruction := by
  unfold Obligations.StepRunsTheDecodedInstruction
  refine ⟨fun s i hd => ⟨fun hnil => ?_, fun rest hengine => ?_, fun rest hpop hempty => ?_⟩,
    fun s v i rest hd hwrite => step_of_ctrlWrite hd hwrite⟩
  · rw [step_of_agenda_nil hnil, engineTurn_of_decode hd]
  · rw [step_of_engine hengine]
    exact engineTurn_of_decode hd
  · rw [step_of_pop hpop, popTurn_of_outq_nil rest hempty, engineTurn_of_decode hd]

/-- Settles O6: by which kind of word it is, the placed word is the CTRL write or the UOP of the next step. -/
theorem stepRunsThePlacedWord : Obligations.StepRunsThePlacedWord := by
  unfold Obligations.StepRunsThePlacedWord
  intro s nbits w i h
  have hd : decode (tableEncoding nbits w) = .ok i := decodeTableWord_eq_some.1 h
  unfold State.withFetchWord
  constructor
  · intro hcommand
    rw [tableEncoding_command hcommand] at hd ⊢
    exact step_placeWord_ctrl hd s
  · intro huop
    rw [tableEncoding_uop huop] at hd ⊢
    exact step_placeWord_uop hd s

/-- Settles O7: with no move before it, or at an engine move, the step is the engine's turn, which has no row to run. -/
theorem reservedUopHasNoSuccessor : Obligations.ReservedUopHasNoSuccessor := by
  unfold Obligations.ReservedUopHasNoSuccessor
  refine fun s r hd => ⟨fun hnil => ?_, fun rest hengine => ?_⟩
  · rw [step_of_agenda_nil hnil, engineTurn_of_reserved hd]
  · rw [step_of_engine hengine]
    exact engineTurn_of_reserved hd

end Sys2Proof.Machine
end

/-!
PROOFS. The statements of 10_state.md: the reset values and the CSR values (O8, O9, O36), what every micro-operation
leaves unchanged or only advances (O42, O48, O49, O13), the identity (O21, O56), and that every step of every agent
keeps the invariant (O10). The 38 rows are read once, in `exec_commits`: what a row that commits leaves outside its own
registers, and in which phase of a decode it leaves the block. Each statement about the engine then follows from
`exec_row_next` with no row unfolded again.
-/
namespace Sys2Proof.Machine

/-! ### The identity -/

/-- Fifteen bytes are stored in wire order, none lost (R24, R65). -/
theorem imeiOf_toList {bs : List Byte} (h : bs.length = 15) : (imeiOf bs).toList = bs := by
  refine List.ext_getElem (by simp [h]) fun j hj _ => ?_
  have hj : j < 15 := by simpa using hj
  interval_cases j <;> simp [imeiOf, h]

theorem allAscii_iff {bs : List Byte} : allAscii bs = true ↔ ∀ b ∈ bs, b.toNat < 0x80 := by
  simp [allAscii]

/-! ### STATE and CLS -/

theorem busy_iff {s : State} : busy s = true ↔ s.state ≠ 0x00#5 ∧ s.state ≠ 0x1E#5 ∧ s.state ≠ 0x1F#5 := by
  simp [busy, doneFlag, errorFlag, and_assoc]

theorem errorFlag_iff {s : State} : errorFlag s = true ↔ s.state = 0x1F#5 := by
  simp [errorFlag]

theorem errorFlag_of_lt {s : State} (h : s.state.toNat < 31) : errorFlag s = false := by
  refine Bool.eq_false_iff.2 fun he => ?_
  rw [errorFlag_iff.1 he] at h
  exact absurd h (by decide)

theorem inHeader_iff {s : State} : inHeader s = true ↔ 1 ≤ s.state.toNat ∧ s.state.toNat ≤ 7 := by
  simp [inHeader]

theorem inRecord_iff {s : State} : inRecord s = true ↔ 8 ≤ s.state.toNat ∧ s.state.toNat ≤ 22 := by
  simp [inRecord]

theorem inEntry_iff {s : State} : inEntry s = true ↔ 19 ≤ s.state.toNat ∧ s.state.toNat ≤ 22 := by
  simp [inEntry]

theorem inFooter_iff {s : State} : inFooter s = true ↔ 23 ≤ s.state.toNat ∧ s.state.toNat ≤ 24 := by
  have key : ∀ c : BitVec 5, (c == StateCode.ftrNrec2 || c == StateCode.ftrCrc) = true ↔
      23 ≤ c.toNat ∧ c.toNat ≤ 24 := by decide
  exact key s.state

/-- The STATE in which a row is selected (R90). -/
def stateOf (i : Instr) : BitVec 5 := (uopCode i).extractLsb' 3 5

theorem state_eq_stateOf {s : State} {i : Instr} (h : decodeUop (uop s) = .ok i) : s.state = stateOf i :=
  state_of_decode h

/-- A reading row is selected only during a decode, past LEN_CHK. -/
theorem busy_of_reading {i : Instr} (hi : i ∈ readingRows) {s : State} (hd : decodeUop (uop s) = .ok i) :
    busy s = true ∧ s.state ≠ StateCode.lenChk := by
  have key : ∀ j ∈ readingRows, stateOf j ∉ [0x00#5, 0x1E#5, 0x1F#5, 0x01#5] := by decide +kernel
  have hcode := key i hi
  rw [← state_eq_stateOf hd] at hcode
  simpa [busy_iff, and_assoc] using hcode

/-- R93: the codes outside the sub-group steps, and not reserved, select a row whatever CLS holds. -/
theorem decodeUop_isOk_of_unclassed :
    ∀ (c : BitVec 5) (w : BitVec 3), c.toNat ≤ 17 ∨ (23 ≤ c.toNat ∧ c.toNat ≤ 24) ∨ 30 ≤ c.toNat →
      (decodeUop (c ++ w)).isOk = true := by
  decide +kernel

/-- R93: GRP_CNT and ENT_ID select a row for each of the five classes, ENT_VAL for each fixed class, VAR_LEN and
VAR_DATA for the variable class. -/
theorem decodeUop_isOk_of_class :
    ∀ (c : BitVec 5) (w : BitVec 3),
      ((c.toNat = 18 ∨ c.toNat = 19) ∧ w.toNat ≤ 4) ∨ (c.toNat = 20 ∧ w.toNat ≤ 3) ∨
        ((c.toNat = 21 ∨ c.toNat = 22) ∧ w.toNat = 4) →
      (decodeUop (c ++ w)).isOk = true := by
  decide +kernel

theorem exists_of_isOk {ε α : Type} {x : Except ε α} (h : x.isOk = true) : ∃ a, x = .ok a := by
  cases x with
  | ok a => exact ⟨a, rfl⟩
  | error e => cases h

/-! ### The phases of a decode -/

/-- Where a block stands, and what the invariant says of its counters there. -/
inductive Phase (s : State) : Prop where
  | idle (state : s.state.toNat = 0) (cls : s.cls = 0#3) (recDone : s.recDone.toNat ≤ s.nrec.toNat)
  | header (state : 1 ≤ s.state.toNat ∧ s.state.toNat ≤ 7) (recDone : s.recDone = 0#8)
      (pos : s.pos.toNat = headerOffset s.state)
  | record (state : 8 ≤ s.state.toNat ∧ s.state.toNat ≤ 17) (recDone : s.recDone.toNat < s.nrec.toNat)
  | group (state : s.state.toNat = 18) (recDone : s.recDone.toNat < s.nrec.toNat)
      (sumk : s.sumk.toNat ≤ s.cls.toNat * 65535)
  | entry (state : 19 ≤ s.state.toNat ∧ s.state.toNat ≤ 22) (live : (decodeUop (s.state ++ s.cls)).isOk = true)
      (recDone : s.recDone.toNat < s.nrec.toNat) (idx : s.idx.toNat < s.k.toNat)
      (sumk : s.sumk.toNat ≤ (s.cls.toNat + 1) * 65535)
  | footer (state : 23 ≤ s.state.toNat ∧ s.state.toNat ≤ 24) (recDone : s.recDone = s.nrec)
  | ended (state : 30 ≤ s.state.toNat) (recDone : s.recDone.toNat ≤ s.nrec.toNat)

/-- What the invariant says of the class, the counts and the identity in every phase. -/
structure PhaseFree (s : State) : Prop where
  clsLe : s.cls.toNat ≤ 4
  sumkLe : s.sumk.toNat ≤ 5 * 65535
  imeiAscii : allAscii s.imei.toList = true

theorem Invariant.phaseFree {s : State} (h : Invariant s) : PhaseFree s := ⟨h.clsLe, h.sumkLe, h.imeiAscii⟩

theorem PhaseFree.congr {s t : State} (h : PhaseFree s) (heq : (t.cls, t.sumk, t.imei) = (s.cls, s.sumk, s.imei)) :
    PhaseFree t := by
  simp only [Prod.mk.injEq] at heq
  obtain ⟨hcls, hsumk, himei⟩ := heq
  exact ⟨hcls ▸ h.clsLe, hsumk ▸ h.sumkLe, himei ▸ h.imeiAscii⟩

/-- The part of the invariant that a row's own rule must establish. -/
structure DecodeInvariant (s : State) : Prop extends PhaseFree s where
  phase : Phase s

theorem Phase.uopLive {s : State} (h : Phase s) (hcls : s.cls.toNat ≤ 4) : ∃ i, decodeUop (uop s) = .ok i := by
  refine exists_of_isOk ?_
  cases h with
  | group state _ _ => exact decodeUop_isOk_of_class _ _ (.inl ⟨.inl state, hcls⟩)
  | entry _ live _ _ _ => exact live
  | _ => exact decodeUop_isOk_of_unclassed _ _ (by omega)

/-- The invariant from the phase, what every phase has, and the clauses that speak of BUF, OUTQ and the error
registers. -/
theorem Invariant.of_phase {s : State} (h : DecodeInvariant s) (bufWf : Memory.wf s.buf)
    (writtenHeld : ∀ a ∈ s.written, (readByte s.buf a).isSome = true) (queueBound : s.outq.length ≤ Config.outDepth)
    (decoding : busy s = true → s.pos.toNat ≤ s.len.toNat ∧
      (s.len.toNat ≤ Config.maxLen ∧ ∀ a, a < s.len.toNat → a ∈ s.written) ∧
      (s.state ≠ StateCode.lenChk → 20 ≤ s.len.toNat))
    (errClear : errorFlag s = false → s.err = 0#3 ∧ s.errUop = 0#8 ∧ s.errPos = 0#32)
    (errSet : errorFlag s = true → s.err = 1#3 ∨ s.err = 2#3 ∨ s.err = 3#3) : Invariant s :=
  { bufWf, writtenHeld, queueBound, errClear, errSet
    posLe := fun hb => (decoding hb).1
    loaded := fun hb => (decoding hb).2.1
    lenChecked := fun hb => (decoding hb).2.2
    clsLe := h.clsLe
    sumkLe := h.sumkLe
    imeiAscii := h.imeiAscii
    uopLive := h.phase.uopLive h.clsLe
    recDoneLe := by
      cases h.phase with
      | header _ recDone _ => simp [recDone]
      | footer _ recDone => simp [recDone]
      | _ => omega
    idxLt := fun he => by
      have := inEntry_iff.1 he
      cases h.phase <;> omega
    recOpen := fun hr => by
      have := inRecord_iff.1 hr
      cases h.phase <;> omega
    recAll := fun hf => by
      have := inFooter_iff.1 hf
      cases h.phase with
      | footer _ recDone => exact recDone
      | _ => omega
    headerRec := fun hh => by
      have := inHeader_iff.1 hh
      cases h.phase with
      | header _ recDone _ => exact recDone
      | _ => omega
    headerPos := fun hh => by
      have := inHeader_iff.1 hh
      cases h.phase <;> omega
    sumkGroups := fun hg => by
      have : s.state.toNat = 18 := by simp [hg]
      cases h.phase with
      | group _ _ sumk => exact sumk
      | _ => exfalso; omega
    sumkEntries := fun he => by
      have := inEntry_iff.1 he
      cases h.phase with
      | entry _ _ _ _ sumk => exact sumk
      | _ => exfalso; omega
    idleCls := fun hi => by
      have : s.state.toNat = 0 := by simp [hi]
      cases h.phase with
      | idle _ cls _ => exact cls
      | _ => omega }

/-! ### The shared successors keep the phase (R160) -/

/-- END_RECORD: the footer after the last record, else the next record. -/
theorem endRecord_decodeInvariant {t : State} (hfree : PhaseFree t) (hopen : t.recDone.toNat < t.nrec.toNat)
    (sk : Nat) : DecodeInvariant (endRecord sk t) := by
  refine ⟨hfree.congr rfl, ?_⟩
  have hnrec := t.nrec.isLt
  have hdone : (BitVec.ofNat 8 (t.recDone.toNat + 1)).toNat = t.recDone.toNat + 1 := by
    rw [BitVec.toNat_ofNat, Nat.mod_eq_of_lt (by omega)]
  by_cases hlast : t.recDone.toNat + 1 = t.nrec.toNat
  · refine .footer ?_ (BitVec.eq_of_toNat_eq (hdone.trans hlast))
    simp [hlast]
  · refine .record ?_ ?_
    · simp [hlast]
    · show (BitVec.ofNat 8 (t.recDone.toNat + 1)).toNat < t.nrec.toNat
      omega

/-- END_GROUP in class `c`: SUMK holds the counts up to `c`. -/
theorem endGroup_decodeInvariant {t : State} (hfree : PhaseFree t) (hopen : t.recDone.toNat < t.nrec.toNat)
    {c : BitVec 3} (hsumk : t.sumk.toNat ≤ (c.toNat + 1) * 65535) (sk : Nat) : DecodeInvariant (endGroup c sk t) := by
  rcases endGroup_cases c sk t with ⟨hc, heq⟩ | ⟨-, heq⟩ <;> rw [heq]
  · have hnext : (c + 1#3).toNat = c.toNat + 1 := by
      rw [BitVec.toNat_add]
      exact Nat.mod_eq_of_lt (show c.toNat + 1 < 8 by omega)
    refine ⟨⟨?_, hfree.sumkLe, hfree.imeiAscii⟩, .group rfl hopen ?_⟩
    · show (c + 1#3).toNat ≤ 4
      omega
    · show t.sumk.toNat ≤ (c + 1#3).toNat * 65535
      rwa [hnext]
  · exact endRecord_decodeInvariant hfree hopen sk

/-- END_ENTRY in class `c`: IDX + 1 is still below K, or the group ends. -/
theorem endEntry_decodeInvariant {t : State} (hfree : PhaseFree t) (hopen : t.recDone.toNat < t.nrec.toNat)
    {c : BitVec 3} (hc : c.toNat ≤ 4) (hsumk : t.sumk.toNat ≤ (c.toNat + 1) * 65535) (hidx : t.idx.toNat < t.k.toNat) :
    DecodeInvariant (endEntry c t) := by
  rcases endEntry_cases c t with ⟨-, heq⟩ | ⟨hmore, heq⟩ <;> rw [heq]
  · apply endGroup_decodeInvariant
    · exact hfree.congr rfl
    · exact hopen
    · exact hsumk
  · have hk := t.k.isLt
    refine ⟨⟨hc, hfree.sumkLe, hfree.imeiAscii⟩, .entry ⟨Nat.le_refl 19, by simp⟩ ?_ hopen ?_ hsumk⟩
    · exact decodeUop_isOk_of_class _ _ (.inl ⟨.inr rfl, hc⟩)
    · show (BitVec.ofNat 16 (t.idx.toNat + 1)).toNat < t.k.toNat
      rw [BitVec.toNat_ofNat, Nat.mod_eq_of_lt (by omega)]
      omega

/-! ### What a row that commits leaves -/

/-- What no row's own rule writes: the host's side, OUTQ (left to `emit`), POS (left to the read) and the error
registers (left to error entry). -/
def outerRegs (s : State) := (hostSide s, s.outq, s.pos, errRegs s)

theorem outerRegs_endGroup (c : BitVec 3) (sk : Nat) (s : State) : outerRegs (endGroup c sk s) = outerRegs s := by
  simp [outerRegs, hostSide, errRegs]

theorem outerRegs_endEntry (c : BitVec 3) (s : State) : outerRegs (endEntry c s) = outerRegs s := by
  simp [outerRegs, hostSide, errRegs]

theorem endGroup_noError (c : BitVec 3) (sk : Nat) (s : State) : errorFlag (endGroup c sk s) = false := by
  rcases endGroup_cases c sk s with ⟨-, h⟩ | ⟨-, h⟩ <;> rw [h]
  · rfl
  · refine errorFlag_of_lt ?_
    rw [endRecord_state]
    split <;> decide

theorem endEntry_noError (c : BitVec 3) (s : State) : errorFlag (endEntry c s) = false := by
  rcases endEntry_cases c s with ⟨-, h⟩ | ⟨-, h⟩ <;> rw [h]
  · exact endGroup_noError ..
  · rfl

/-- Row `i`, having read its bytes in `s`, commits the tokens `ts` and the registers of `t`: as many tokens as its
column says, nothing of `outerRegs` written, no error; and where the row was selected in a state that meets the
invariant, `t` is in a phase of the decode. -/
structure Commit (i : Instr) (s : State) (ts : List Token) (t : State) : Prop where
  tokens : ts.length = successTokens i
  outer : outerRegs t = outerRegs (advance (readWidth i s) s)
  noError : errorFlag t = false
  keeps : Invariant s → decodeUop (uop s) = .ok i → DecodeInvariant t

/-- An outcome of row `i` in `s` is that of a reading step whose rule does what `Commit` says. -/
def ReadsAndCommits (i : Instr) (s : State) (o : Host.Outcome State Fault Refusal) : Prop :=
  ∃ body, o = extract i body s ∧
    ∀ bs ts t, Ready i s bs → body bs (advance (readWidth i s) s) = .commit ts t → Commit i s ts t

/-- A rule that raises no error of its own. -/
theorem readsAndCommits_of_commit {i : Instr} {s : State} {toks : List Byte → State → List Token}
    {regs : List Byte → State → State}
    (h : ∀ bs, Ready i s bs → Commit i s (toks bs (advance (readWidth i s) s)) (regs bs (advance (readWidth i s) s))) :
    ReadsAndCommits i s (extract i (fun bs t => .commit (toks bs t) (regs bs t)) s) := by
  refine ⟨_, rfl, ?_⟩
  rintro bs ts t ready ⟨⟩
  exact h bs ready

/-! #### Header rows -/

theorem inHeader_of_decode {s : State} {i : Instr} (hd : decodeUop (uop s) = .ok i)
    (hi : 1 ≤ (stateOf i).toNat ∧ (stateOf i).toNat ≤ 7) : inHeader s = true :=
  inHeader_iff.2 (state_eq_stateOf hd ▸ hi)

/-- From one header row to the next: POS stands at the next row's offset (R80). -/
theorem headerRow_decodeInvariant {i : Instr} {s t : State} {bs : List Byte} (hinv : Invariant s)
    (hd : decodeUop (uop s) = .ok i) (ready : Ready i s bs) (hi : 1 ≤ (stateOf i).toNat ∧ (stateOf i).toNat ≤ 7)
    (hstate : 1 ≤ t.state.toNat ∧ t.state.toNat ≤ 7)
    (hoffset : headerOffset t.state = headerOffset (stateOf i) + readWidth i s)
    (hkeep : (t.pos, t.cls, t.sumk, t.recDone) = ((advance (readWidth i s) s).pos, s.cls, s.sumk, s.recDone))
    (himei : allAscii t.imei.toList = true) : DecodeInvariant t := by
  have hhead := inHeader_of_decode hd hi
  simp only [Prod.mk.injEq] at hkeep
  obtain ⟨hpos, hcls, hsumk, hrecDone⟩ := hkeep
  refine ⟨⟨hcls ▸ hinv.clsLe, hsumk ▸ hinv.sumkLe, himei⟩, .header hstate (hrecDone.trans (hinv.headerRec hhead)) ?_⟩
  rw [hpos, advance_toNat ready, hinv.headerPos hhead, state_eq_stateOf hd, hoffset]

/-- A header row that raises no error of its own and stores no identity. -/
theorem headerField_commits {i : Instr} {next : BitVec 5} {s : State} {toks : List Byte → List Token}
    {regs : List Byte → State → State} (htok : ∀ bs, (toks bs).length = successTokens i)
    (hi : 1 ≤ (stateOf i).toNat ∧ (stateOf i).toNat ≤ 7) (hnext : 1 ≤ next.toNat ∧ next.toNat ≤ 7)
    (hoffset : headerOffset next = headerOffset (stateOf i) + readWidth i s)
    (hregs : ∀ bs t, (outerRegs (regs bs t), (regs bs t).cls, (regs bs t).sumk, (regs bs t).recDone, (regs bs t).imei) =
      (outerRegs t, t.cls, t.sumk, t.recDone, t.imei)) :
    ReadsAndCommits i s (extract i (fun bs t => .commit (toks bs) (goto next (regs bs t))) s) := by
  refine readsAndCommits_of_commit fun bs ready => ?_
  obtain ⟨houter, hkeep⟩ := Prod.mk.inj (hregs bs (advance (readWidth i s) s))
  simp only [Prod.mk.injEq] at hkeep
  obtain ⟨hcls, hsumk, hrecDone, himei⟩ := hkeep
  refine ⟨htok bs, houter, errorFlag_of_lt (show next.toNat < 31 by omega), fun hinv hd => ?_⟩
  refine headerRow_decodeInvariant hinv hd ready hi hnext hoffset ?_ ?_
  · have hpos : (regs bs (advance (readWidth i s) s)).pos = (advance (readWidth i s) s).pos :=
      congrArg (·.2.2.1) houter
    simp [hpos, hcls, hsumk, hrecDone]
  · simpa [himei] using hinv.imeiAscii

theorem execHdrPre_commits (s : State) : ReadsAndCommits .hdrPre s (execHdrPre s) :=
  headerField_commits (fun _ => rfl) (by decide) (by decide) rfl (fun _ _ => rfl)

/-- HDR_IMEI commits only an identity below 0x80 (R123). -/
theorem execHdrImei_commits (s : State) : ReadsAndCommits .hdrImei s (execHdrImei s) := by
  refine ⟨_, rfl, fun bs ts t ready h => ?_⟩
  split at h <;> cases h
  rename_i hascii
  refine ⟨rfl, rfl, rfl, fun hinv hd => headerRow_decodeInvariant hinv hd ready (by decide) (by simp) rfl rfl ?_⟩
  show allAscii (imeiOf bs).toList = true
  rwa [imeiOf_toList (ready_length ready)]

theorem execHdrZero_commits (s : State) : ReadsAndCommits .hdrZero s (execHdrZero s) :=
  headerField_commits (fun _ => rfl) (by decide) (by decide) rfl (fun _ _ => rfl)

theorem execHdrFlen_commits (s : State) : ReadsAndCommits .hdrFlen s (execHdrFlen s) :=
  headerField_commits (fun _ => rfl) (by decide) (by decide) rfl (fun _ _ => rfl)

theorem execHdrCodec_commits (s : State) : ReadsAndCommits .hdrCodec s (execHdrCodec s) :=
  headerField_commits (fun _ => rfl) (by decide) (by decide) rfl (fun _ _ => rfl)

/-- HDR_NREC opens a record when there is one, else the footer, where REC_DONE = NREC = 0 (R128). -/
theorem execHdrNrec_commits (s : State) : ReadsAndCommits .hdrNrec s (execHdrNrec s) := by
  unfold execHdrNrec
  refine readsAndCommits_of_commit fun bs ready => ?_
  by_cases hzero : field 8 bs = 0#8
  · rw [if_pos hzero, hzero]
    refine ⟨rfl, rfl, rfl, fun hinv hd => ?_⟩
    have hrec := hinv.headerRec (inHeader_of_decode hd (by decide))
    exact ⟨hinv.phaseFree.congr rfl, .footer (by simp) hrec⟩
  · rw [if_neg hzero]
    refine ⟨rfl, rfl, rfl, fun hinv hd => ?_⟩
    have hrec := hinv.headerRec (inHeader_of_decode hd (by decide))
    refine ⟨hinv.phaseFree.congr rfl, .record (by simp) ?_⟩
    show s.recDone.toNat < (field 8 bs).toNat
    rw [hrec]
    exact Nat.pos_of_ne_zero fun h => hzero (BitVec.eq_of_toNat_eq h)

/-! #### Record rows -/

theorem Invariant.recOpen_of_decode {s : State} (hinv : Invariant s) {i : Instr} (hd : decodeUop (uop s) = .ok i)
    (hi : 8 ≤ (stateOf i).toNat ∧ (stateOf i).toNat ≤ 22) : s.recDone.toNat < s.nrec.toNat :=
  hinv.recOpen (inRecord_iff.2 (state_eq_stateOf hd ▸ hi))

theorem recordField_commits {i : Instr} (htok : successTokens i = 1)
    (hi : 8 ≤ (stateOf i).toNat ∧ (stateOf i).toNat ≤ 22) (pack : List Byte → DWord) {next : BitVec 5}
    (hnext : 8 ≤ next.toNat ∧ next.toNat ≤ 17) (s : State) : ReadsAndCommits i s (recordField i pack next s) := by
  refine readsAndCommits_of_commit fun bs ready => ⟨htok.symm, rfl, ?_, fun hinv hd => ?_⟩
  · exact errorFlag_of_lt (show next.toNat < 31 by omega)
  · exact ⟨hinv.phaseFree.congr rfl, .record hnext (hinv.recOpen_of_decode hd hi)⟩

theorem execIoEvid_commits (s : State) : ReadsAndCommits .ioEvid s (execIoEvid s) :=
  recordField_commits rfl (by decide) (fun bs => zext64 (field 16 bs)) (by decide) s

/-- IO_TOTAL starts the sub-groups with SUMK = 0 (R162). -/
theorem execIoTotal_commits (s : State) : ReadsAndCommits .ioTotal s (execIoTotal s) := by
  unfold execIoTotal
  refine readsAndCommits_of_commit fun bs ready => ⟨rfl, rfl, rfl, fun hinv hd => ?_⟩
  exact ⟨⟨Nat.zero_le _, Nat.zero_le _, hinv.imeiAscii⟩,
    .group rfl (hinv.recOpen_of_decode hd (by decide)) (Nat.zero_le _)⟩

/-! #### Sub-group rows -/

/-- Row `i` reads CLS and is selected with class `c` (R91, R93). -/
structure SelectsClass (i : Instr) (c : BitVec 3) : Prop where
  mask : uopMask i = 0xFF#8
  cls : (uopCode i).extractLsb' 0 3 = c

theorem SelectsClass.cls_eq {i : Instr} {c : BitVec 3} (h : SelectsClass i c) {s : State}
    (hd : decodeUop (uop s) = .ok i) : s.cls = c :=
  (cls_of_decode h.mask hd).trans h.cls

/-- With the count of class `c` added, SUMK is within the bound of class `c` (R27). -/
theorem groupCount_sumk_le {c : BitVec 3} {sumk : BitVec 19}
    (hsumk : sumk.toNat ≤ c.toNat * 65535) (k : BitVec 16) :
    (BitVec.ofNat 19 (sumk.toNat + k.toNat)).toNat ≤ (c.toNat + 1) * 65535 := by
  have hk := k.isLt
  rw [BitVec.toNat_ofNat]
  refine Nat.le_trans (Nat.mod_le ..) ?_
  omega

/-- GRP_CNT of class `c` adds its count to SUMK and goes to the first entry or past the group (R163). -/
theorem groupCount_commits {i : Instr} {c : BitVec 3} (htok : successTokens i = 1) (hstate : stateOf i = 0x12#5)
    (hclass : SelectsClass i c) (hc : c.toNat ≤ 4) (s : State) :
    ReadsAndCommits i s (groupCount i c s) := by
  refine readsAndCommits_of_commit fun bs ready => ?_
  have keeps : Invariant s → decodeUop (uop s) = .ok i → s.cls = c ∧ s.recDone.toNat < s.nrec.toNat ∧
      (BitVec.ofNat 19 (s.sumk.toNat + (field 16 bs).toNat)).toNat ≤ (c.toNat + 1) * 65535 := fun hinv hd => by
    have hscls := hclass.cls_eq hd
    refine ⟨hscls, hinv.recOpen_of_decode hd (hstate ▸ (by decide)), groupCount_sumk_le ?_ _⟩
    exact hscls ▸ hinv.sumkGroups ((state_eq_stateOf hd).trans hstate)
  by_cases hzero : field 16 bs = 0#16
  · rw [if_pos hzero]
    refine ⟨htok.symm, outerRegs_endGroup .., endGroup_noError .., fun hinv hd => ?_⟩
    obtain ⟨hscls, hopen, hsumk⟩ := keeps hinv hd
    apply endGroup_decodeInvariant
    · exact ⟨hinv.clsLe, Nat.le_trans hsumk (Nat.mul_le_mul_right 65535 (Nat.succ_le_succ hc)), hinv.imeiAscii⟩
    · exact hopen
    · exact hsumk
  · rw [if_neg hzero]
    refine ⟨htok.symm, rfl, rfl, fun hinv hd => ?_⟩
    obtain ⟨hscls, hopen, hsumk⟩ := keeps hinv hd
    refine ⟨⟨hc, ?_, hinv.imeiAscii⟩, .entry ⟨Nat.le_refl 19, by simp⟩ ?_ hopen ?_ hsumk⟩
    · exact Nat.le_trans hsumk (Nat.mul_le_mul_right 65535 (Nat.succ_le_succ hc))
    · exact decodeUop_isOk_of_class _ _ (.inl ⟨.inr rfl, hc⟩)
    · exact Nat.pos_of_ne_zero fun h => hzero (BitVec.eq_of_toNat_eq h)

/-! #### Entry rows -/

/-- What the invariant says where an entry row is selected. -/
theorem Invariant.entry_of_decode {s : State} (hinv : Invariant s) {i : Instr} {c : BitVec 3}
    (hd : decodeUop (uop s) = .ok i) (hi : 19 ≤ (stateOf i).toNat ∧ (stateOf i).toNat ≤ 22)
    (hclass : SelectsClass i c) :
    s.cls = c ∧ s.recDone.toNat < s.nrec.toNat ∧ s.idx.toNat < s.k.toNat ∧ s.sumk.toNat ≤ (c.toNat + 1) * 65535 := by
  have hscls := hclass.cls_eq hd
  have hentry : inEntry s = true := inEntry_iff.2 (state_eq_stateOf hd ▸ hi)
  exact ⟨hscls, hinv.recOpen_of_decode hd ⟨by omega, hi.2⟩, hinv.idxLt hentry, hscls ▸ hinv.sumkEntries hentry⟩

/-- ENT_ID of a fixed class goes to ENT_VAL of that class (R168). -/
theorem entryId_commits {i : Instr} {c : BitVec 3} (htok : successTokens i = 0)
    (hi : 19 ≤ (stateOf i).toNat ∧ (stateOf i).toNat ≤ 22) (hclass : SelectsClass i c)
    (hc : c.toNat ≤ 3) (s : State) : ReadsAndCommits i s (entryId i c s) := by
  refine readsAndCommits_of_commit fun bs ready => ⟨htok.symm, rfl, rfl, fun hinv hd => ?_⟩
  obtain ⟨-, hopen, hidx, hsumk⟩ := hinv.entry_of_decode hd hi hclass
  refine ⟨⟨Nat.le_succ_of_le hc, hinv.sumkLe, hinv.imeiAscii⟩, .entry ?_ ?_ hopen hidx hsumk⟩
  · exact ⟨show 19 ≤ 20 by decide, show 20 ≤ 22 by decide⟩
  · exact decodeUop_isOk_of_class _ _ (.inr (.inl ⟨rfl, hc⟩))

/-- Within a variable entry CLS stays the variable class (R90, R172, R177). -/
theorem variableRow_decodeInvariant {i : Instr} {s t : State} (hinv : Invariant s) (hd : decodeUop (uop s) = .ok i)
    (hi : 19 ≤ (stateOf i).toNat ∧ (stateOf i).toNat ≤ 22) (hclass : SelectsClass i 4#3)
    (hstate : t.state.toNat = 21 ∨ t.state.toNat = 22)
    (hkeep : (t.cls, t.recDone, t.nrec, t.idx, t.k, t.sumk, t.imei) =
      (s.cls, s.recDone, s.nrec, s.idx, s.k, s.sumk, s.imei)) : DecodeInvariant t := by
  obtain ⟨hscls, hopen, hidx, hsumk⟩ := hinv.entry_of_decode hd hi hclass
  simp only [Prod.mk.injEq] at hkeep
  obtain ⟨htcls, hrecDone, hnrec, htidx, hk, htsumk, himei⟩ := hkeep
  rw [← hrecDone, ← hnrec] at hopen
  rw [← htidx, ← hk] at hidx
  rw [← htsumk] at hsumk
  have hvar : t.cls = 4#3 := htcls.trans hscls
  refine ⟨hinv.phaseFree.congr (by rw [htcls, htsumk, himei]), .entry (by omega) ?_ hopen hidx ?_⟩
  · exact decodeUop_isOk_of_class _ _ (.inr (.inr ⟨hstate, by rw [hvar]; rfl⟩))
  · rwa [hvar]

theorem execEntIdX_commits (s : State) : ReadsAndCommits .entIdX s (execEntIdX s) := by
  unfold execEntIdX
  refine readsAndCommits_of_commit fun bs ready => ⟨rfl, rfl, rfl, fun hinv hd => ?_⟩
  exact variableRow_decodeInvariant hinv hd (by decide) ⟨rfl, rfl⟩ (.inl rfl) rfl

theorem execVarLen_commits (s : State) : ReadsAndCommits .varLen s (execVarLen s) := by
  unfold execVarLen
  refine readsAndCommits_of_commit fun bs ready => ⟨rfl, rfl, rfl, fun hinv hd => ?_⟩
  exact variableRow_decodeInvariant hinv hd (by decide) ⟨rfl, rfl⟩ (.inr rfl) rfl

/-- Any row that reads the entry's value and does END_ENTRY (R173, R178). -/
theorem endEntry_commits {i : Instr} {c : BitVec 3} (htok : successTokens i = 1)
    (hi : 19 ≤ (stateOf i).toNat ∧ (stateOf i).toNat ≤ 22) (hclass : SelectsClass i c)
    (hc : c.toNat ≤ 4) (tok : List Byte → Token) (s : State) :
    ReadsAndCommits i s (extract i (fun bs t => .commit [tok bs] (endEntry c t)) s) := by
  refine readsAndCommits_of_commit fun bs ready =>
    ⟨htok.symm, outerRegs_endEntry .., endEntry_noError .., fun hinv hd => ?_⟩
  obtain ⟨-, hopen, hidx, hsumk⟩ := hinv.entry_of_decode hd hi hclass
  apply endEntry_decodeInvariant
  · exact hinv.phaseFree.congr rfl
  · exact hopen
  · exact hc
  · exact hsumk
  · exact hidx

theorem entryValue_commits {i : Instr} {c : BitVec 3} (htok : successTokens i = 1)
    (hi : 19 ≤ (stateOf i).toNat ∧ (stateOf i).toNat ≤ 22) (hclass : SelectsClass i c)
    (hc : c.toNat ≤ 4) (pack : List Byte → DWord) (s : State) : ReadsAndCommits i s (entryValue i c pack s) :=
  endEntry_commits htok hi hclass hc (fun bs => fieldToken i s.recDone s.id (pack bs)) s

theorem execVarData_commits (s : State) : ReadsAndCommits .varData s (execVarData s) :=
  endEntry_commits rfl (by decide) ⟨rfl, rfl⟩ (by decide) _ s

/-! #### Footer rows -/

theorem Invariant.recAll_of_decode {s : State} (hinv : Invariant s) {i : Instr} (hd : decodeUop (uop s) = .ok i)
    (hi : 23 ≤ (stateOf i).toNat ∧ (stateOf i).toNat ≤ 24) : s.recDone = s.nrec :=
  hinv.recAll (inFooter_iff.2 (state_eq_stateOf hd ▸ hi))

theorem execFtrNrec2_commits (s : State) : ReadsAndCommits .ftrNrec2 s (execFtrNrec2 s) := by
  unfold execFtrNrec2
  refine readsAndCommits_of_commit fun bs ready => ⟨rfl, rfl, rfl, fun hinv hd => ?_⟩
  exact ⟨hinv.phaseFree.congr rfl, .footer (by simp) (hinv.recAll_of_decode hd (by decide))⟩

theorem execFtrCrc_commits (s : State) : ReadsAndCommits .ftrCrc s (execFtrCrc s) := by
  unfold execFtrCrc
  refine readsAndCommits_of_commit fun bs ready => ⟨rfl, rfl, rfl, fun hinv hd => ?_⟩
  exact ⟨hinv.phaseFree.congr rfl, .ended (by simp) hinv.recDoneLe⟩

/-- Every reading row is one `extract` that commits as `Commit` says. -/
theorem exec_commits {i : Instr} (hi : i ∈ readingRows) (s : State) : ReadsAndCommits i s (exec i s) := by
  cases i with
  | idle | lenChk | done | error | start _ | clear _ => simp [readingRows] at hi
  | hdrPre => exact execHdrPre_commits s
  | hdrImei => exact execHdrImei_commits s
  | hdrZero => exact execHdrZero_commits s
  | hdrFlen => exact execHdrFlen_commits s
  | hdrCodec => exact execHdrCodec_commits s
  | hdrNrec => exact execHdrNrec_commits s
  | recTs | recPrio | recLon | recLat | recAlt | recAng | recSat | recSpd =>
    exact recordField_commits rfl (by decide) _ (by decide) s
  | ioEvid => exact execIoEvid_commits s
  | ioTotal => exact execIoTotal_commits s
  | grpCnt1 | grpCnt2 | grpCnt4 | grpCnt8 | grpCntX => exact groupCount_commits rfl rfl ⟨rfl, rfl⟩ (by decide) s
  | entId1 | entId2 | entId4 | entId8 => exact entryId_commits rfl (by decide) ⟨rfl, rfl⟩ (by decide) s
  | entIdX => exact execEntIdX_commits s
  | entVal1 | entVal2 | entVal4 | entVal8 => exact entryValue_commits rfl (by decide) ⟨rfl, rfl⟩ (by decide) _ s
  | varLen => exact execVarLen_commits s
  | varData => exact execVarData_commits s
  | ftrNrec2 => exact execFtrNrec2_commits s
  | ftrCrc => exact execFtrCrc_commits s

/-! ### What a micro-operation can do -/

/-- Everything a reading step can do when it answers a next state, its rule's own error among the rest. -/
theorem extract_next_cases {i : Instr} {s s' : State} {body : List Byte → State → Effect}
    (h : extract i body s = .next s') :
    s' = s ∨
    (∃ e, hasRoom 1 s = true ∧ s' = errorEntry (uopCode i) e s) ∨
    ∃ bs ts t, Ready i s bs ∧ body bs (advance (readWidth i s) s) = .commit ts t ∧ s' = emit ts t := by
  rcases extract_next h with rfl | ⟨-, hroom, rfl⟩ | ⟨bs, ready, hfinish⟩
  · exact .inl rfl
  · exact .inr (.inl ⟨_, hroom, rfl⟩)
  · cases hbody : body bs (advance (readWidth i s) s) with
    | commit ts t =>
      rw [hbody, finish_commit] at hfinish
      cases hfinish
      exact .inr (.inr ⟨bs, ts, t, ready, hbody, rfl⟩)
    | raise e =>
      rw [hbody, finish_raise] at hfinish
      rcases raiseError_cases i e s with ⟨hroom, he⟩ | ⟨-, he⟩ <;> rw [he] at hfinish <;> cases hfinish
      · exact .inr (.inl ⟨e, hroom, rfl⟩)
      · exact .inl rfl

/-- Everything a micro-operation can do when it answers a next state: hold or rest, enter an error, pass LEN_CHK, or
read and commit. -/
theorem exec_row_next {i : Instr} (hi : i ∈ uopRows) {s s' : State} (h : exec i s = .next s') :
    s' = s ∨
    (∃ e, hasRoom 1 s = true ∧ s' = errorEntry (uopCode i) e s) ∨
    (i = .lenChk ∧ 20 ≤ s.len.toNat ∧ s' = goto StateCode.hdrPre s) ∨
    ∃ bs ts t, i ∈ readingRows ∧ Ready i s bs ∧ Commit i s ts t ∧ s' = emit ts t := by
  rcases uopRows_cases hi with rfl | rfl | rfl | rfl | hread
  · cases h
    exact .inl rfl
  · rcases execLenChk_cases s with ⟨-, hx⟩ | ⟨hlen, -, hx⟩ | ⟨-, -, hx⟩ <;> rw [hx] at h
    · rcases raiseError_cases .lenChk .invalidLength s with ⟨hroom, he⟩ | ⟨-, he⟩ <;> rw [he] at h <;> cases h
      · exact .inr (.inl ⟨_, hroom, rfl⟩)
      · exact .inl rfl
    · cases h
      exact .inr (.inr (.inl ⟨rfl, hlen, rfl⟩))
    · cases h
      exact .inl rfl
  · cases h
    exact .inl rfl
  · cases h
    exact .inl rfl
  · obtain ⟨body, hbody, hcommits⟩ := exec_commits hread s
    rw [hbody] at h
    rcases extract_next_cases h with rfl | herror | ⟨bs, ts, t, ready, hcommit, rfl⟩
    · exact .inl rfl
    · exact .inr (.inl herror)
    · exact .inr (.inr (.inr ⟨bs, ts, t, hread, ready, hcommits bs ts t ready hcommit, rfl⟩))

section Commit
variable {i : Instr} {s t : State} {ts : List Token} {bs : List Byte}

theorem Commit.hostSide_eq (h : Commit i s ts t) : hostSide t = hostSide s := congrArg (·.1) h.outer

theorem Commit.outq_eq (h : Commit i s ts t) : t.outq = s.outq := congrArg (·.2.1) h.outer

theorem Commit.errRegs_eq (h : Commit i s ts t) : errRegs t = errRegs s := congrArg (·.2.2.2) h.outer

/-- POS moves by the read width, and the addition does not wrap (R63). -/
theorem Commit.pos_toNat (h : Commit i s ts t) (ready : Ready i s bs) : t.pos.toNat = s.pos.toNat + readWidth i s := by
  have hpos : t.pos = (advance (readWidth i s) s).pos := congrArg (·.2.2.1) h.outer
  rw [hpos, advance_toNat ready]

/-- The hold test has left room for what is emitted (R96). -/
theorem Commit.outq_bound (h : Commit i s ts t) (ready : Ready i s bs) :
    (emit ts t).outq.length ≤ Config.outDepth := by
  have hroom := hasRoom_iff.1 ready.room
  rw [emit_outq, h.outq_eq, List.length_append, h.tokens]
  exact hroom

end Commit

theorem successTokens_le_two (i : Instr) : successTokens i ≤ 2 := by
  unfold successTokens
  split <;> decide

/-- The queue after an error entry is within OUT_DEPTH: the hold test asked for one place (R96). -/
theorem errorEntry_outq_bound {s : State} (h : hasRoom 1 s = true) (u : BitVec 8) (e : ErrKind) :
    (errorEntry u e s).outq.length ≤ Config.outDepth := by
  have hroom := hasRoom_iff.1 h
  simpa using hroom

/-- R61, R205: no micro-operation writes anything of the host's side. -/
theorem exec_row_hostSide {i : Instr} (hi : i ∈ uopRows) {s s' : State} (h : exec i s = .next s') :
    hostSide s' = hostSide s := by
  rcases exec_row_next hi h with rfl | ⟨e, -, rfl⟩ | ⟨-, -, rfl⟩ | ⟨bs, ts, t, -, -, hcommit, rfl⟩
  · rfl
  · rfl
  · rfl
  · exact hcommit.hostSide_eq

/-- R66: POS stays, or moves by exactly the read width within LEN. -/
theorem exec_row_pos {i : Instr} (hi : i ∈ uopRows) {s s' : State} (h : exec i s = .next s') :
    s'.pos = s.pos ∨ (s'.pos.toNat = s.pos.toNat + readWidth i s ∧ s'.pos.toNat ≤ s.len.toNat) := by
  rcases exec_row_next hi h with rfl | ⟨e, -, rfl⟩ | ⟨-, -, rfl⟩ | ⟨bs, ts, t, -, ready, hcommit, rfl⟩
  · exact .inl rfl
  · exact .inl rfl
  · exact .inl rfl
  · have hpos := hcommit.pos_toNat ready
    exact .inr ⟨hpos, hpos ▸ ready.inBounds⟩

/-! ### The statements about the micro-operations -/

/-- Settles O42: BUF is part of the host's side, which no row writes. -/
theorem engineNeverWritesTheHostsSide : Obligations.EngineNeverWritesTheHostsSide := by
  unfold Obligations.EngineNeverWritesTheHostsSide
  intro i hi s s' h
  have hside := exec_row_hostSide hi h
  have hbuf : s'.buf = s.buf := congrArg (·.2.2.1) hside
  exact ⟨fun a => by rw [hbuf], hside⟩

/-- Settles O48: a row appends nothing, END_ERR, or the tokens of its own column, each behind the hold test. -/
theorem engineStepsOnlyAppendTokens : Obligations.EngineStepsOnlyAppendTokens := by
  unfold Obligations.EngineStepsOnlyAppendTokens
  intro i hi s s' hq h
  rcases exec_row_next hi h with rfl | ⟨e, hroom, rfl⟩ | ⟨-, -, rfl⟩ | ⟨bs, ts, t, -, ready, hcommit, rfl⟩
  · exact ⟨[], by simp, by simp, hq⟩
  · exact ⟨_, rfl, by simp, errorEntry_outq_bound hroom _ e⟩
  · exact ⟨[], by simp, by simp, hq⟩
  · refine ⟨ts, by rw [emit_outq, hcommit.outq_eq], ?_, hcommit.outq_bound ready⟩
    rw [hcommit.tokens]
    exact successTokens_le_two i

/-- Settles O49: this is what the rows have in common about POS. -/
theorem posAdvancesByTheReadWidth : Obligations.PosAdvancesByTheReadWidth := by
  unfold Obligations.PosAdvancesByTheReadWidth
  exact fun _ hi _ _ h => exec_row_pos hi h

/-- Settles O21: the step is ready and its bytes are ASCII, so it commits; POS + 15 is the same in 32 bits. -/
theorem hdrImeiStoresTheIdentity : Obligations.HdrImeiStoresTheIdentity := by
  unfold Obligations.HdrImeiStoresTheIdentity
  intro s bs ready hascii
  refine ⟨imeiOf_toList (ready_length ready), ?_⟩
  show execHdrImei s = _
  unfold execHdrImei
  rw [extract_ready _ ready, if_pos (allAscii_iff.2 hascii), advance_eq]
  rfl

/-! ### The invariant, move by move -/

theorem errCode_cases (e : ErrKind) : errCode e = 1#3 ∨ errCode e = 2#3 ∨ errCode e = 3#3 := by
  cases e <;> decide

/-- Error entry keeps the invariant: the block is no longer BUSY and the error registers are set (R226). -/
theorem errorEntry_invariant {s : State} (hinv : Invariant s) (hroom : hasRoom 1 s = true) (u : BitVec 8)
    (e : ErrKind) : Invariant (errorEntry u e s) := by
  apply Invariant.of_phase
  case h => exact ⟨hinv.phaseFree.congr rfl, .ended (by simp) hinv.recDoneLe⟩
  case bufWf => exact hinv.bufWf
  case writtenHeld => exact hinv.writtenHeld
  case queueBound => exact errorEntry_outq_bound hroom u e
  case decoding => exact fun hb => nomatch hb
  case errClear => exact fun hclear => nomatch hclear
  case errSet => exact fun _ => errCode_cases e

/-- LEN_CHK's success keeps the invariant: HDR_PRE stands where LEN_CHK does (R121). -/
theorem goto_hdrPre_invariant {s : State} (hinv : Invariant s) (hd : decodeUop (uop s) = .ok .lenChk)
    (hlen : 20 ≤ s.len.toNat) : Invariant (goto StateCode.hdrPre s) := by
  have hstate : s.state = 0x01#5 := state_eq_stateOf hd
  have hhead : inHeader s = true := inHeader_of_decode hd (by decide)
  have hbusy : busy s = true := busy_iff.2 (by simp [hstate])
  have herr : errorFlag s = false := errorFlag_of_lt (by simp [hstate])
  have hpos := hinv.headerPos hhead
  rw [hstate] at hpos
  apply Invariant.of_phase
  case h => exact ⟨hinv.phaseFree.congr rfl, .header (by simp) (hinv.headerRec hhead) hpos⟩
  case bufWf => exact hinv.bufWf
  case writtenHeld => exact hinv.writtenHeld
  case queueBound => exact hinv.queueBound
  case decoding => exact fun _ => ⟨hinv.posLe hbusy, hinv.loaded hbusy, fun _ => hlen⟩
  case errClear => exact fun _ => hinv.errClear herr
  case errSet => exact fun hset => nomatch hset

/-- Emitting tokens leaves the phase: it speaks of no OUTQ. -/
theorem emit_decodeInvariant {t : State} (h : DecodeInvariant t) (ts : List Token) : DecodeInvariant (emit ts t) := by
  refine ⟨h.toPhaseFree.congr rfl, ?_⟩
  cases h.phase with
  | idle state cls recDone => exact .idle state cls recDone
  | header state recDone pos => exact .header state recDone pos
  | record state recDone => exact .record state recDone
  | group state recDone sumk => exact .group state recDone sumk
  | entry state live recDone idx sumk => exact .entry state live recDone idx sumk
  | footer state recDone => exact .footer state recDone
  | ended state recDone => exact .ended state recDone

/-- A commit of the row that was selected keeps the invariant. -/
theorem emit_commit_invariant {i : Instr} {s t : State} {bs : List Byte} {ts : List Token} (hinv : Invariant s)
    (hd : decodeUop (uop s) = .ok i) (hi : i ∈ readingRows) (ready : Ready i s bs) (hcommit : Commit i s ts t) :
    Invariant (emit ts t) := by
  obtain ⟨hbusy, hpast⟩ := busy_of_reading hi hd
  have hside := hcommit.hostSide_eq
  have hlen : t.len = s.len := congrArg (·.1) hside
  have hbuf : t.buf = s.buf := congrArg (·.2.2.1) hside
  have hwritten : t.written = s.written := congrArg (·.2.2.2.1) hside
  have herr : errorFlag s = false := Bool.eq_false_iff.2 fun he => (busy_iff.1 hbusy).2.2 (errorFlag_iff.1 he)
  apply Invariant.of_phase
  case h => exact emit_decodeInvariant (hcommit.keeps hinv hd) ts
  case bufWf => exact hbuf ▸ hinv.bufWf
  case writtenHeld =>
    rw [emit_written, emit_buf, hwritten, hbuf]
    exact hinv.writtenHeld
  case queueBound => exact hcommit.outq_bound ready
  case decoding =>
    rw [emit_pos, emit_len, emit_written, hcommit.pos_toNat ready, hlen, hwritten]
    exact fun _ => ⟨ready.inBounds, hinv.loaded hbusy, fun _ => hinv.lenChecked hbusy hpast⟩
  case errClear =>
    obtain ⟨hcode, huop, hpos⟩ := hinv.errClear herr
    have herrs := hcommit.errRegs_eq
    simp only [errRegs, Prod.mk.injEq, hcode, huop, hpos] at herrs
    exact fun _ => herrs
  case errSet => exact fun hset => absurd (hcommit.noError.symm.trans hset) (by decide)

/-- Every micro-operation that is selected keeps the invariant. -/
theorem exec_row_keeps_invariant {i : Instr} {s s' : State} (hinv : Invariant s) (hd : decodeUop (uop s) = .ok i)
    (h : exec i s = .next s') : Invariant s' := by
  rcases exec_row_next (decodeUop_sound hd).1 h with rfl | ⟨e, hroom, rfl⟩ | ⟨rfl, hlen, rfl⟩ |
    ⟨bs, ts, t, hread, ready, hcommit, rfl⟩
  · exact hinv
  · exact errorEntry_invariant hinv hroom _ e
  · exact goto_hdrPre_invariant hinv hd hlen
  · exact emit_commit_invariant hinv hd hread ready hcommit

theorem engineTurn_keeps_invariant {s s' : State} (hinv : Invariant s) (h : engineTurn s = .next s') :
    Invariant s' := by
  obtain ⟨i, hd, hexec⟩ := engineTurn_next h
  exact exec_row_keeps_invariant hinv hd hexec

/-- The host and the consumer write only their own side and take from OUTQ; while BUSY they leave LEN and the record of
written offsets (R205, R255). -/
theorem Invariant.hostUpdate {s : State} (hinv : Invariant s) {m : Memory} {l : List Nat} {q : List Token} {n : Word}
    (bufWf : Memory.wf m) (writtenHeld : ∀ a ∈ l, (readByte m a).isSome = true)
    (queueBound : q.length ≤ Config.outDepth) (hbusy : busy s = true → n = s.len ∧ l = s.written)
    (irqEn : Bool) (agenda : List Move) (rdata : Word) (partialFrame : List Token) (frames : List (List Token)) :
    Invariant { s with len := n, irqEn, outq := q, buf := m, written := l, agenda, rdata, partialFrame, frames } :=
  { hinv with
    bufWf, writtenHeld, queueBound
    posLe := fun h => (hbusy h).1 ▸ hinv.posLe h
    loaded := fun h => (hbusy h).1 ▸ (hbusy h).2 ▸ hinv.loaded h
    lenChecked := fun h => (hbusy h).1 ▸ hinv.lenChecked h }

theorem Invariant.withAgenda {s : State} (hinv : Invariant s) (agenda : List Move) : Invariant { s with agenda } :=
  hinv.hostUpdate hinv.bufWf hinv.writtenHeld hinv.queueBound (fun _ => ⟨rfl, rfl⟩) ..

theorem setIrqEn_invariant {s : State} (hinv : Invariant s) (v : Word) : Invariant (setIrqEn v s) :=
  hinv.hostUpdate hinv.bufWf hinv.writtenHeld hinv.queueBound (fun _ => ⟨rfl, rfl⟩) ..

theorem allAscii_zero : allAscii (Vector.replicate 15 (0#8 : Byte)).toList = true := by decide

/-- With every decode register cleared the invariant holds in IDLE, and in LEN_CHK over a loaded frame (R202, R203,
R253). -/
theorem clearDecode_invariant {c : BitVec 5} {s : State} (bufWf : Memory.wf s.buf)
    (writtenHeld : ∀ a ∈ s.written, (readByte s.buf a).isSome = true) (queueBound : s.outq.length ≤ Config.outDepth)
    (hc : c = StateCode.idle ∨
      c = StateCode.lenChk ∧ s.len.toNat ≤ Config.maxLen ∧ ∀ a, a < s.len.toNat → a ∈ s.written) :
    Invariant (clearDecode c s) := by
  have hfree : PhaseFree (clearDecode c s) := ⟨Nat.zero_le _, Nat.zero_le _, allAscii_zero⟩
  apply Invariant.of_phase
  case h =>
    rcases hc with rfl | ⟨rfl, -⟩
    · exact ⟨hfree, .idle rfl rfl (Nat.zero_le _)⟩
    · exact ⟨hfree, .header (by simp [clearDecode]) rfl rfl⟩
  case bufWf => exact bufWf
  case writtenHeld => exact writtenHeld
  case queueBound => exact queueBound
  case decoding =>
    rcases hc with rfl | ⟨rfl, hloaded⟩
    · exact fun hb => nomatch hb
    · exact fun _ => ⟨Nat.zero_le _, hloaded, fun hpast => absurd rfl hpast⟩
  case errClear => exact fun _ => ⟨rfl, rfl, rfl⟩
  case errSet => rcases hc with rfl | ⟨rfl, -⟩ <;> exact fun hset => nomatch hset

/-- Reset is CLEAR with the host's registers and OUTQ emptied too (R250). -/
theorem resetBlock_eq_clearDecode (s : State) :
    resetBlock s = clearDecode StateCode.idle
      { s with len := 0#32, irqEn := false, outq := [], written := [], partialFrame := [] } := rfl

theorem resetBlock_invariant {s : State} (bufWf : Memory.wf s.buf) : Invariant (resetBlock s) := by
  rw [resetBlock_eq_clearDecode]
  exact clearDecode_invariant bufWf (fun a ha => nomatch ha) (Nat.zero_le _) (.inl rfl)

theorem execStart_keeps_invariant {v : Word} {s s' : State} (hinv : Invariant s) (h : exec (.start v) s = .next s') :
    Invariant s' := by
  rcases execStart_cases v s with ⟨-, hx⟩ | ⟨-, -, hx⟩ | ⟨-, hlen, hwritten, hx⟩ | ⟨-, -, -, hx⟩ <;>
    rw [hx] at h <;> cases h
  · exact setIrqEn_invariant hinv v
  · exact clearDecode_invariant hinv.bufWf hinv.writtenHeld hinv.queueBound (.inr ⟨rfl, hlen, hwritten⟩)

theorem execClear_keeps_invariant {v : Word} {s s' : State} (hinv : Invariant s) (h : exec (.clear v) s = .next s') :
    Invariant s' := by
  rcases execClear_cases v s with ⟨-, hx⟩ | ⟨-, hx⟩ <;> rw [hx] at h <;> cases h
  · exact setIrqEn_invariant hinv v
  · exact clearDecode_invariant hinv.bufWf hinv.writtenHeld hinv.queueBound (.inl rfl)

theorem writeCtrl_keeps_invariant {v : Word} {s s' : State} (hinv : Invariant s) (h : writeCtrl v s = .next s') :
    Invariant s' := by
  rcases writeCtrl_cases v s with ⟨-, hx⟩ | ⟨-, -, hx⟩ | ⟨-, -, hx⟩ <;> rw [hx] at h
  · exact execStart_keeps_invariant hinv h
  · exact execClear_keeps_invariant hinv h
  · cases h
    exact setIrqEn_invariant hinv v

/-- A LEN write while BUSY is ignored; at rest no clause speaks of LEN (R205). -/
theorem writeLen_keeps_invariant {s : State} (hinv : Invariant s) (v : Word) : Invariant (writeLen v s) := by
  unfold writeLen
  split
  · exact hinv
  · rename_i hrest
    exact hinv.hostUpdate hinv.bufWf hinv.writtenHeld hinv.queueBound (fun h => absurd h hrest) ..

/-- A BUF write at rest: what it counts as written it has written (R209, R253). -/
theorem writeBuf_keeps_invariant {off : Nat} {bytes : List Byte} {s s' : State} (hinv : Invariant s)
    (h : writeBuf off bytes s = .next s') : Invariant s' := by
  obtain ⟨hrest, -, rfl⟩ := writeBuf_next h
  refine hinv.hostUpdate (writeBytes_wf off bytes hinv.bufWf) (fun a ha => ?_) hinv.queueBound
    (fun h => absurd (hrest.symm.trans h) (by decide)) ..
  rw [readByte_writeBytes]
  by_cases hin : off ≤ a ∧ a < off + bytes.length
  · rw [if_pos hin, List.getElem?_eq_getElem (by omega)]
    rfl
  · rw [if_neg hin]
    exact hinv.writtenHeld a ((mem_markOffsets.1 ha).resolve_left hin)

/-- A pop takes one token from OUTQ, or leaves the turn to the engine (R208). -/
theorem popTurn_keeps_invariant {rest : List Move} {s s' : State} (hinv : Invariant s)
    (h : popTurn rest s = .next s') : Invariant s' := by
  rcases popTurn_cases rest s with ⟨-, hx⟩ | ⟨t, q, hq, hx⟩ <;> rw [hx] at h
  · exact engineTurn_keeps_invariant hinv h
  · cases h
    have hbound : q.length ≤ Config.outDepth := by
      have := hinv.queueBound
      rw [hq, List.length_cons] at this
      omega
    rcases consume_cases t { s with agenda := rest, outq := q } with ⟨-, hc⟩ | ⟨-, hc⟩ | ⟨-, -, hc⟩ <;> rw [hc] <;>
      exact hinv.hostUpdate hinv.bufWf hinv.writtenHeld hbound (fun _ => ⟨rfl, rfl⟩) ..

/-- Settles O10: move by move; the engine's turn is `exec_row_keeps_invariant`. -/
theorem everyStepKeepsInv : Obligations.EveryStepKeepsInv := by
  unfold Obligations.EveryStepKeepsInv
  intro s s' hinv h
  rcases step_cases h with ⟨-, hturn⟩ | ⟨rest, -, hturn⟩ | ⟨off, lanes, v, rest, -, hwrite⟩ |
    ⟨off, lanes, rest, -, hread⟩ | ⟨off, bytes, rest, -, hbuf⟩ | ⟨rest, -, hpop⟩ | ⟨rest, -, rfl⟩
  · exact engineTurn_keeps_invariant hinv hturn
  · exact engineTurn_keeps_invariant (hinv.withAgenda rest) hturn
  · obtain ⟨-, ⟨-, hctrl⟩ | ⟨-, rfl⟩ | ⟨-, -, rfl⟩⟩ := writeCsr_next hwrite
    · exact writeCtrl_keeps_invariant (hinv.withAgenda rest) hctrl
    · exact writeLen_keeps_invariant (hinv.withAgenda rest) v
    · exact hinv.withAgenda rest
  · obtain ⟨-, rfl⟩ := readCsr_next hread
    exact hinv.hostUpdate hinv.bufWf hinv.writtenHeld hinv.queueBound (fun _ => ⟨rfl, rfl⟩) ..
  · exact writeBuf_keeps_invariant (hinv.withAgenda rest) hbuf
  · exact popTurn_keeps_invariant hinv hpop
  · exact resetBlock_invariant hinv.bufWf

/-- Settles O9: the reset state is a reset of itself. -/
theorem invHoldsAtReset : Obligations.InvHoldsAtReset := by
  unfold Obligations.InvHoldsAtReset
  exact resetBlock_invariant (s := State.reset) List.Pairwise.nil

/-! ### POS and LEN -/

theorem engineTurn_pos_le_len {s s' : State} (hle : s.pos.toNat ≤ s.len.toNat) (h : engineTurn s = .next s') :
    s'.pos.toNat ≤ s'.len.toNat := by
  obtain ⟨i, hd, hexec⟩ := engineTurn_next h
  have hi := (decodeUop_sound hd).1
  have hlen : s'.len = s.len := congrArg (·.1) (exec_row_hostSide hi hexec)
  rcases exec_row_pos hi hexec with hpos | ⟨-, hpos⟩
  · rwa [hpos, hlen]
  · rwa [hlen]

/-- A command leaves POS or clears it, and LEN stays (R202, R203). -/
theorem writeCtrl_pos_le_len {v : Word} {s s' : State} (hle : s.pos.toNat ≤ s.len.toNat)
    (h : writeCtrl v s = .next s') : s'.pos.toNat ≤ s'.len.toNat := by
  rcases writeCtrl_cases v s with ⟨-, hx⟩ | ⟨-, -, hx⟩ | ⟨-, -, hx⟩ <;> rw [hx] at h
  · rcases execStart_cases v s with ⟨-, hx⟩ | ⟨-, -, hx⟩ | ⟨-, -, -, hx⟩ | ⟨-, -, -, hx⟩ <;> rw [hx] at h <;> cases h
    · exact hle
    · exact Nat.zero_le _
  · rcases execClear_cases v s with ⟨-, hx⟩ | ⟨-, hx⟩ <;> rw [hx] at h <;> cases h
    · exact hle
    · exact Nat.zero_le _
  · cases h
    exact hle

theorem popTurn_pos_le_len {rest : List Move} {s s' : State} (hle : s.pos.toNat ≤ s.len.toNat)
    (h : popTurn rest s = .next s') : s'.pos.toNat ≤ s'.len.toNat := by
  rcases popTurn_cases rest s with ⟨-, hx⟩ | ⟨t, q, -, hx⟩ <;> rw [hx] at h
  · exact engineTurn_pos_le_len hle h
  · cases h
    rcases consume_cases t { s with agenda := rest, outq := q } with ⟨-, hc⟩ | ⟨-, hc⟩ | ⟨-, -, hc⟩ <;> rw [hc] <;>
      exact hle

/-- Settles O13: move by move; of the host's moves only a LEN write could lower LEN. -/
theorem posStaysWithinLen : Obligations.PosStaysWithinLen := by
  unfold Obligations.PosStaysWithinLen
  intro s s' _ hle hnolen h
  rcases step_cases h with ⟨-, hturn⟩ | ⟨rest, -, hturn⟩ | ⟨off, lanes, v, rest, hagenda, hwrite⟩ |
    ⟨off, lanes, rest, -, hread⟩ | ⟨off, bytes, rest, -, hbuf⟩ | ⟨rest, -, hpop⟩ | ⟨rest, -, rfl⟩
  · exact engineTurn_pos_le_len hle hturn
  · exact engineTurn_pos_le_len (s := { s with agenda := rest }) hle hturn
  · obtain ⟨-, ⟨-, hctrl⟩ | ⟨rfl, -⟩ | ⟨-, -, rfl⟩⟩ := writeCsr_next hwrite
    · exact writeCtrl_pos_le_len (s := { s with agenda := rest }) hle hctrl
    · exact absurd hagenda (hnolen lanes v rest)
    · exact hle
  · obtain ⟨-, rfl⟩ := readCsr_next hread
    exact hle
  · obtain ⟨-, -, rfl⟩ := writeBuf_next hbuf
    exact hle
  · exact popTurn_pos_le_len hle hpop
  · exact Nat.zero_le _

/-! ### Reset values and CSR values -/

theorem outqFull_of_outq_nil {s : State} (h : s.outq = []) : outqFull s = false := by
  simp [outqFull, h, Config.outDepth]

/-- STATUS at reset: OUTQ_EMPTY alone, for every OUT_DEPTH (R47). -/
theorem csrStatus_reset : csrStatus State.reset = 0x00002000#32 := by
  unfold csrStatus
  rw [outqFull_of_outq_nil rfl]
  rfl

/-- Settles O8: the table by evaluation, START over a loaded frame and CLEAR by what each can do at rest. -/
theorem resetStateIsTheTable : Obligations.ResetStateIsTheTable := by
  unfold Obligations.ResetStateIsTheTable
  refine ⟨?table, fun c s => rfl, fun s v hrest hlen hwritten => ?start, fun s v hrest => ?clear, csrStatus_reset⟩
  case table => decide
  case start =>
    rcases execStart_cases v s with ⟨hbusy, -⟩ | ⟨-, hlong, -⟩ | ⟨-, -, -, hx⟩ | ⟨-, -, hunwritten, -⟩
    · exact absurd (hrest.symm.trans hbusy) (by decide)
    · omega
    · exact hx
    · exact absurd hwritten hunwritten
  case clear =>
    rcases execClear_cases v s with ⟨hbusy, -⟩ | ⟨-, hx⟩
    · exact absurd (hrest.symm.trans hbusy) (by decide)
    · exact hx

/-- Four identity bytes of an IMEI register, where all four exist (R55). -/
theorem csrImei_eq (s : State) {j : Nat} (h : 4 * j + 3 < 15) :
    csrImei j s = s.imei[4 * j] ++ s.imei[4 * j + 1] ++ s.imei[4 * j + 2] ++ s.imei[4 * j + 3] := by
  have hget : ∀ k, (hk : k < 15) → s.imei.toList.getD k 0 = s.imei[k] := fun k hk => by
    simp [List.getD_eq_getElem?_getD, hk]
  unfold csrImei
  rw [hget _ (by omega), hget _ (by omega), hget _ (by omega), hget _ h]

theorem csrImei_last (s : State) : csrImei 3 s = s.imei[12] ++ s.imei[13] ++ s.imei[14] ++ 0#8 := by
  unfold csrImei
  simp [List.getD_eq_getElem?_getD]

/-- STATUS field by field, each flag as R34 and R47 say it. -/
theorem csrStatus_eq (s : State) : csrStatus s =
    0#17 ++ BitVec.ofBool (decide (s.outq.length = Config.outDepth)) ++ BitVec.ofBool (decide (s.outq = [])) ++
      BitVec.ofBool (decide (s.state = 0x1E#5 ∨ s.state = 0x1F#5)) ++ BitVec.ofBool s.cmm ++
      BitVec.ofBool (decide (s.state = 0x1F#5)) ++ BitVec.ofBool (decide (s.state = 0x1E#5)) ++
      BitVec.ofBool (decide (s.state ≠ 0x00#5 ∧ s.state ≠ 0x1E#5 ∧ s.state ≠ 0x1F#5)) ++ (s.state ++ s.cls) := by
  have hempty : outqEmpty s = decide (s.outq = []) := by
    rw [outqEmpty, Bool.eq_iff_iff]
    simp
  have hbusy : busy s = decide (s.state ≠ 0x00#5 ∧ s.state ≠ 0x1E#5 ∧ s.state ≠ 0x1F#5) := by
    rw [Bool.eq_iff_iff, busy_iff, decide_eq_true_iff]
  have hpend : irqPend s = decide (s.state = 0x1E#5 ∨ s.state = 0x1F#5) := by
    rw [Bool.eq_iff_iff]
    simp [irqPend, doneFlag, errorFlag]
  unfold csrStatus
  rw [hempty, hbusy, hpend]
  rfl

/-- No register is mapped from 0x38 up (R45, R57). -/
theorem csrValue_unmapped {off : Word} (h : 0x38 ≤ off.toNat) (s : State) : csrValue off s = 0#32 := by
  have hne : ∀ c : Word, c.toNat < 0x38 → off ≠ c := fun c hc heq => by
    rw [heq] at h
    omega
  simp [csrValue, hne]

/-- Settles O36: STATUS and the identity registers by their own lemmas, the rest as the model packs them. -/
theorem csrValuesAreTheFields : Obligations.CsrValuesAreTheFields := by
  unfold Obligations.CsrValuesAreTheFields
  intro s
  exact ⟨rfl, csrStatus_eq s, rfl, rfl, rfl, rfl, rfl, rfl, rfl, csrImei_eq s (j := 0) (by decide),
    csrImei_eq s (j := 1) (by decide), csrImei_eq s (j := 2) (by decide), csrImei_last s, rfl,
    fun off h => csrValue_unmapped h s⟩

/-! ### Decoded Frames -/

/-- What every value of a piece has, every value of its repetition has. -/
theorem repeatRead_forall {α : Type} {p : Parser α} {P : α → Prop}
    (hp : ∀ bs a r, p bs = .ok (a, r) → P a) {n : Nat} {bs r : List Byte} {as : List α}
    (h : repeatRead p n bs = .ok (as, r)) : ∀ a ∈ as, P a := by
  induction n generalizing bs as with
  | zero => simp [(repeatRead_zero.1 h).1]
  | succ n ih =>
    obtain ⟨a, as', r', rfl, ha, has⟩ := repeatRead_succ.1 h
    exact List.forall_mem_cons.2 ⟨hp _ _ _ ha, ih has⟩

theorem rdGroup_forall {α : Type} {p : Parser α} {P : α → Prop} (hp : ∀ bs a r, p bs = .ok (a, r) → P a)
    {bs r : List Byte} {as : List α} (h : rdGroup p bs = .ok (as, r)) : ∀ a ∈ as, P a := by
  obtain ⟨k, r', -, hrepeat⟩ := bind_ok.1 h
  exact repeatRead_forall hp hrepeat

/-- A variable entry holds as many bytes as it declares (R83). -/
theorem rdVarEntry_length {bs r : List Byte} {e : VarEntry} (h : rdVarEntry bs = .ok (e, r)) :
    e.data.length = e.length.toNat := by
  unfold rdVarEntry at h
  simp only [bind_ok, pure_ok, rd_ok] at h
  obtain ⟨id, r1, -, n, r2, -, d, r3, ⟨hn, rfl, -⟩, rfl, -⟩ := h
  exact List.length_take_of_le hn

theorem rdRecord_varEntries {bs r : List Byte} {a : AvlRecord} (h : rdRecord bs = .ok (a, r)) :
    ∀ e ∈ a.io.g4, e.data.length = e.length.toNat := by
  unfold rdRecord rdIOElement at h
  simp only [bind_ok, pure_ok] at h
  obtain ⟨_, _, -, _, _, -, _, _, -, _, _, -, _, _, -, _, _, -, _, _, -, _, _, -, io, _, hio, rfl, -⟩ := h
  obtain ⟨_, _, -, _, _, -, _, _, -, _, _, -, _, _, -, _, _, -, g4, _, hg4, rfl, -⟩ := hio
  exact rdGroup_forall (fun _ _ _ => rdVarEntry_length) hg4

theorem rdImei_ascii {bs r : List Byte} {v : Vector Byte 15} (h : rdImei bs = .ok (v, r)) :
    allAscii v.toList = true := by
  obtain ⟨b, r', hrd, hcheck⟩ := bind_ok.1 h
  obtain ⟨hlen, rfl, -⟩ := rd_ok.1 hrd
  split at hcheck
  · rename_i hascii
    obtain ⟨rfl, -⟩ := pure_ok.1 hcheck
    rwa [imeiOf_toList (List.length_take_of_le hlen)]
  · cases hcheck

/-- What DECODE's parser gives is well formed: each clause from the piece that reads it (R40, R42, R43). -/
theorem rdFrame_wf {bs r : List Byte} {f : Frame} (h : rdFrame bs = .ok (f, r)) :
    f.records.length = f.nrec.toNat ∧ f.wf = true := by
  unfold rdFrame at h
  simp only [bind_ok, pure_ok] at h
  obtain ⟨_, _, -, imei, _, himei, _, _, -, _, _, -, _, _, -, nrec, _, -, records, _, hrecords, _, _, -, _, _, -, rfl,
    -⟩ := h
  have hlength : records.length = nrec.toNat := repeatRead_length hrecords
  have hentries := repeatRead_forall (fun _ _ _ => rdRecord_varEntries) hrecords
  refine ⟨hlength, ?_⟩
  simpa [Frame.wf, rdImei_ascii himei, hlength] using hentries

theorem decodeFrame_ok {bs : List Byte} {f : Frame} {p : Nat} (h : decodeFrame bs = .ok (f, p)) :
    ∃ r, rdFrame bs = .ok (f, r) ∧ p = bs.length - r.length := by
  unfold decodeFrame at h
  split at h
  · cases h
  · split at h <;> cases h
    rename_i r hframe
    exact ⟨r, hframe, rfl⟩

/-- Settles O56. -/
theorem decodedFramesAreWellFormed : Obligations.DecodedFramesAreWellFormed := by
  unfold Obligations.DecodedFramesAreWellFormed
  intro bs f p h
  obtain ⟨r, hframe, -⟩ := decodeFrame_ok h
  exact rdFrame_wf hframe

end Sys2Proof.Machine

/-!
PROOFS. The statements of 20_memory.md: BUF keeps its form (O11), the engine never reads a byte that nothing has
written (O12), a short read is TruncatedFrame (O14), what a host write to BUF stores (O38) and what the model refuses
(O39).
-/
namespace Sys2Proof.Machine

/-! ### The host's moves: when each is done and when it stops -/

theorem step_of_csrRead {s : State} {off : Word} {lanes : BitVec 4} {rest : List Move}
    (h : s.agenda = .csrRead off lanes :: rest) : step s = readCsr off lanes { s with agenda := rest } := by
  unfold step takeTurn
  rw [h]

theorem step_of_bufWrite {s : State} {off : Nat} {bytes : List Byte} {rest : List Move}
    (h : s.agenda = .bufWrite off bytes :: rest) : step s = writeBuf off bytes { s with agenda := rest } := by
  unfold step takeTurn
  rw [h]

/-- An access is an aligned word when its offset is a multiple of 4 and all four lanes are used (R77). -/
theorem csrAligned_iff {off : Word} {lanes : BitVec 4} :
    csrAligned off lanes = true ↔ off.toNat % 4 = 0 ∧ lanes = allLanes := by
  simp [csrAligned, BitVec.toNat_eq]

theorem csrAligned_eq_false {off : Word} {lanes : BitVec 4} (h : off.toNat % 4 ≠ 0 ∨ lanes ≠ allLanes) :
    csrAligned off lanes = false := by
  rw [Bool.eq_false_iff, ne_eq, csrAligned_iff]
  exact fun ⟨hoff, hlanes⟩ => h.elim (· hoff) (· hlanes)

theorem writeCsr_refused {off : Word} {lanes : BitVec 4} (h : csrAligned off lanes = false) (v : Word) (s : State) :
    writeCsr off lanes v s = .refused .csrNotAlignedWord := by
  unfold writeCsr
  rw [h]
  rfl

theorem readCsr_refused {off : Word} {lanes : BitVec 4} (h : csrAligned off lanes = false) (s : State) :
    readCsr off lanes s = .refused .csrNotAlignedWord := by
  unfold readCsr
  rw [h]
  rfl

/-- R255: whatever the offset and the bytes, a BUF write while BUSY is refused. -/
theorem writeBuf_of_busy {s : State} (h : busy s = true) (off : Nat) (bytes : List Byte) :
    writeBuf off bytes s = .refused .bufWriteWhileBusy := if_pos h

/-- A BUF write at rest within MAX_LEN is done (R209). -/
theorem writeBuf_of_fits {s : State} {off : Nat} {bytes : List Byte} (h : busy s = false)
    (hfits : off + bytes.length ≤ Config.maxLen) : writeBuf off bytes s = .next
      { s with buf := writeBytes s.buf off bytes, written := markOffsets s.written off bytes.length } := by
  unfold writeBuf
  rw [h, if_neg Bool.false_ne_true, if_pos hfits]

/-- A BUF write at rest that passes MAX_LEN faults as a whole (log 13). -/
theorem writeBuf_of_beyond {s : State} {off : Nat} {bytes : List Byte} (h : busy s = false)
    (hbeyond : Config.maxLen < off + bytes.length) : writeBuf off bytes s = .fault (.bufOutOfRange off) := by
  unfold writeBuf
  rw [h, if_neg Bool.false_ne_true, if_neg (Nat.not_le_of_lt hbeyond)]

/-! ### BUF from one state to the next (R61) -/

theorem engineTurn_buf {s s' : State} (h : engineTurn s = .next s') : s'.buf = s.buf := by
  obtain ⟨i, hd, hexec⟩ := engineTurn_next h
  exact congrArg (·.2.2.1) (exec_row_hostSide (decodeUop_sound hd).1 hexec)

theorem writeCtrl_buf {v : Word} {s s' : State} (h : writeCtrl v s = .next s') : s'.buf = s.buf := by
  rcases writeCtrl_cases v s with ⟨-, hx⟩ | ⟨-, -, hx⟩ | ⟨-, -, hx⟩ <;> rw [hx] at h
  · rcases execStart_cases v s with ⟨-, hx⟩ | ⟨-, -, hx⟩ | ⟨-, -, -, hx⟩ | ⟨-, -, -, hx⟩ <;> rw [hx] at h <;> cases h <;>
      rfl
  · rcases execClear_cases v s with ⟨-, hx⟩ | ⟨-, hx⟩ <;> rw [hx] at h <;> cases h <;> rfl
  · cases h
    rfl

@[simp] theorem writeLen_buf (v : Word) (s : State) : (writeLen v s).buf = s.buf := by
  unfold writeLen
  split <;> rfl

@[simp] theorem consume_buf (t : Token) (s : State) : (consume t s).buf = s.buf := by
  rcases consume_cases t s with ⟨-, h⟩ | ⟨-, h⟩ | ⟨-, -, h⟩ <;> rw [h]

theorem popTurn_buf {rest : List Move} {s s' : State} (h : popTurn rest s = .next s') : s'.buf = s.buf := by
  rcases popTurn_cases rest s with ⟨-, hx⟩ | ⟨t, q, -, hx⟩ <;> rw [hx] at h
  · exact engineTurn_buf h
  · cases h
    rw [consume_buf]

/-- Only the host's BUF write changes BUF, and then by its own bytes (R61, R209, R252). -/
theorem step_buf {s s' : State} (h : step s = .next s') :
    s'.buf = s.buf ∨
    ∃ off bytes rest, s.agenda = .bufWrite off bytes :: rest ∧ s'.buf = writeBytes s.buf off bytes := by
  rcases step_cases h with ⟨-, hturn⟩ | ⟨rest, -, hturn⟩ | ⟨off, lanes, v, rest, -, hwrite⟩ |
    ⟨off, lanes, rest, -, hread⟩ | ⟨off, bytes, rest, hagenda, hbuf⟩ | ⟨rest, -, hpop⟩ | ⟨rest, -, rfl⟩
  · exact .inl (engineTurn_buf hturn)
  · exact .inl (engineTurn_buf (s := { s with agenda := rest }) hturn)
  · obtain ⟨-, ⟨-, hctrl⟩ | ⟨-, rfl⟩ | ⟨-, -, rfl⟩⟩ := writeCsr_next hwrite
    · exact .inl (writeCtrl_buf (s := { s with agenda := rest }) hctrl)
    · exact .inl (writeLen_buf ..)
    · exact .inl rfl
  · obtain ⟨-, rfl⟩ := readCsr_next hread
    exact .inl rfl
  · obtain ⟨-, -, rfl⟩ := writeBuf_next hbuf
    exact .inr ⟨off, bytes, rest, hagenda, rfl⟩
  · exact .inl (popTurn_buf hpop)
  · exact .inl rfl

/-- Settles O11: a BUF write keeps the form, every other step keeps BUF. -/
theorem everyStepKeepsBufForm : Obligations.EveryStepKeepsBufForm := by
  unfold Obligations.EveryStepKeepsBufForm
  intro s s' hwf h
  rcases step_buf h with hsame | ⟨off, bytes, -, -, hwritten⟩
  · rwa [hsame]
  · rw [hwritten]
    exact writeBytes_wf off bytes hwf

/-! ### What stops the engine -/

theorem raiseError_exists_next (i : Instr) (e : ErrKind) (s : State) : ∃ s', raiseError i e s = .next s' := by
  rcases raiseError_cases i e s with ⟨-, h⟩ | ⟨-, h⟩ <;> exact ⟨_, h⟩

theorem finish_exists_next (i : Instr) (s : State) (f : Effect) : ∃ s', finish i s f = .next s' := by
  cases f with
  | commit ts t => exact ⟨_, rfl⟩
  | raise e => exact raiseError_exists_next i e s

/-- Nothing but an unwritten byte within LEN stops a reading step. -/
theorem extract_exists_next {i : Instr} {s : State} (body : List Byte → State → Effect)
    (hheld : ∀ a, a < s.len.toNat → (readByte s.buf a).isSome = true) : ∃ s', extract i body s = .next s' := by
  by_cases hin : s.pos.toNat + readWidth i s ≤ s.len.toNat
  · cases hroom : hasRoom (successTokens i) s with
    | false => exact ⟨s, extract_hold body hin hroom⟩
    | true =>
      obtain ⟨bs, hbs⟩ := readBytes_isSome (m := s.buf) (a := s.pos.toNat) (n := readWidth i s)
        fun a _ ha => hheld a (by omega)
      rw [extract_ready body ⟨hin, hroom, hbs⟩]
      exact finish_exists_next ..
  · rw [extract_truncated body (by omega)]
    exact raiseError_exists_next ..

/-- While a decode runs, every byte within LEN is there to be read (R252, R253). -/
theorem Invariant.held_of_busy {s : State} (hinv : Invariant s) (hb : busy s = true) {a : Nat}
    (ha : a < s.len.toNat) : (readByte s.buf a).isSome = true :=
  hinv.writtenHeld a ((hinv.loaded hb).2 a ha)

/-- A micro-operation selected in a state that meets the invariant answers a next state. -/
theorem exec_row_exists_next {i : Instr} {s : State} (hinv : Invariant s) (hd : decodeUop (uop s) = .ok i) :
    ∃ s', exec i s = .next s' := by
  rcases uopRows_cases (decodeUop_sound hd).1 with rfl | rfl | rfl | rfl | hread
  · exact ⟨s, rfl⟩
  · rcases execLenChk_cases s with ⟨-, hx⟩ | ⟨-, -, hx⟩ | ⟨-, -, hx⟩ <;> rw [hx]
    · exact raiseError_exists_next ..
    · exact ⟨_, rfl⟩
    · exact ⟨s, rfl⟩
  · exact ⟨s, rfl⟩
  · exact ⟨s, rfl⟩
  · obtain ⟨body, hbody⟩ := exec_reading hread s
    rw [hbody]
    exact extract_exists_next body fun _ => hinv.held_of_busy (busy_of_reading hread hd).1

/-- Settles O12: the invariant's UOP selects a row, which runs over bytes the host has written. -/
theorem engineTurnNeverStops : Obligations.EngineTurnNeverStops := by
  unfold Obligations.EngineTurnNeverStops
  intro s hinv
  obtain ⟨i, hd⟩ := hinv.uopLive
  rw [engineTurn_of_decode hd]
  exact exec_row_exists_next hinv hd

/-- With a free place in OUTQ an error is entered (R96, R226). -/
theorem raiseError_of_room {i : Instr} {s : State} (h : hasRoom 1 s = true) (e : ErrKind) :
    raiseError i e s = .next (errorEntry (uopCode i) e s) := if_pos h

/-- Settles O14: a short read raises TruncatedFrame before the row's own rule is looked at. -/
theorem shortReadRaisesTruncatedFrame : Obligations.ShortReadRaisesTruncatedFrame := by
  unfold Obligations.ShortReadRaisesTruncatedFrame
  intro i hi s hshort hroom
  rw [exec_truncated hi hshort, raiseError_of_room hroom]
  rfl

/-! ### BUF writes and refusals -/

/-- Settles O38: the step is `writeBuf`, whose bytes and record are those of `readByte_writeBytes` and
`mem_markOffsets`. -/
theorem bufWriteStoresItsBytes : Obligations.BufWriteStoresItsBytes := by
  unfold Obligations.BufWriteStoresItsBytes
  intro s off bytes rest hagenda hrest
  rw [step_of_bufWrite hagenda]
  constructor
  · intro hfits
    exact ⟨_, _, writeBuf_of_fits (s := { s with agenda := rest }) hrest hfits, readByte_writeBytes s.buf off bytes,
      fun _ => mem_markOffsets⟩
  · exact writeBuf_of_beyond (s := { s with agenda := rest }) hrest

/-- Settles O39: by the access, by BUSY, and by what START can do at rest. -/
theorem refusalsTheSpecAsksFor : Obligations.RefusalsTheSpecAsksFor := by
  unfold Obligations.RefusalsTheSpecAsksFor
  refine ⟨fun s off v lanes rest hbad => ?csr, fun s off bytes rest hbusy hagenda => ?buf,
    fun s v hrest hlong => ?tooLong, fun s v hrest hlen hgap => ?unwritten⟩
  case csr =>
    have hbad' := csrAligned_eq_false hbad
    exact ⟨fun hagenda => (step_of_csrWrite hagenda).trans (writeCsr_refused hbad' ..),
      fun hagenda => (step_of_csrRead hagenda).trans (readCsr_refused hbad' ..)⟩
  case buf => exact (step_of_bufWrite hagenda).trans (writeBuf_of_busy (s := { s with agenda := rest }) hbusy ..)
  case tooLong =>
    rcases execStart_cases v s with ⟨hbusy, -⟩ | ⟨-, -, hx⟩ | ⟨-, hlen, -⟩ | ⟨-, hlen, -⟩
    · exact absurd (hrest.symm.trans hbusy) (by decide)
    · exact hx
    · omega
    · omega
  case unwritten =>
    obtain ⟨a, ha, hnot⟩ := hgap
    rcases execStart_cases v s with ⟨hbusy, -⟩ | ⟨-, hlong, -⟩ | ⟨-, -, hall, -⟩ | ⟨-, -, -, hx⟩
    · exact absurd (hrest.symm.trans hbusy) (by decide)
    · omega
    · exact absurd (hall a ha) hnot
    · exact hx

end Sys2Proof.Machine


/-!
PROOFS. The statements of 30_encoding.md: the opcode map and its inverse (O1 to O4), the pop of a token (O37), the
hold (O15), VAR_DATA's reference (O29), what CODEC and FLEN leave alone (O50), the reference decode's size and errors
(O57, O58), the Frame rebuilt from its tokens (O59), and the engine against the reference decode (O60).
-/
namespace Sys2Proof.Machine

/-! ### The opcode map (R93) -/

theorem rowMatches_iff {u : BitVec 8} {i : Instr} : rowMatches u i = true ↔ u &&& uopMask i = uopCode i := by
  simp [rowMatches]

/-- A row the word matches is the row the decoder finds: no row before it matches too. -/
theorem find?_rowMatches {u : BitVec 8} {i : Instr} (hi : i ∈ uopRows) (h : rowMatches u i = true) :
    uopRows.find? (rowMatches u) = some i := by
  obtain ⟨before, after, hsplit⟩ := List.append_of_mem hi
  have hdisjoint := uopRows_disjoint
  rw [hsplit] at hdisjoint
  have hearlier := (List.pairwise_append.1 hdisjoint).2.2
  refine List.find?_eq_some_iff_append.2 ⟨h, before, after, hsplit, fun j hj => ?_⟩
  have hboth := hearlier j hj i List.mem_cons_self u
  simpa [h] using hboth

/-- R93: a UOP is read as a row exactly when it is a row that the word matches. -/
theorem decodeUop_eq_ok_iff {u : BitVec 8} {i : Instr} :
    decodeUop u = .ok i ↔ i ∈ uopRows ∧ u &&& uopMask i = uopCode i := by
  rw [← rowMatches_iff]
  refine ⟨decodeUop_sound, fun ⟨hi, hmatch⟩ => ?_⟩
  unfold decodeUop
  rw [find?_rowMatches hi hmatch]

/-- R202 to R204: bit 0 commands START, bit 1 without bit 0 commands CLEAR. -/
theorem decodeCtrl_eq_ok_iff {v : Word} {i : Instr} :
    decodeCtrl v = .ok i ↔
      (i = .start v ∧ v.getLsbD 0 = true) ∨ (i = .clear v ∧ v.getLsbD 0 = false ∧ v.getLsbD 1 = true) := by
  unfold decodeCtrl
  cases v.getLsbD 0 with
  | true => simpa using eq_comm
  | false =>
    cases v.getLsbD 1 with
    | true => simpa using eq_comm
    | false => simp

/-- A word is rejected exactly when no row matches it, and then by the name of its reserved range. -/
theorem decodeUop_eq_error_iff {u : BitVec 8} {r : DecodeReject} :
    decodeUop u = .error r ↔ (∀ i ∈ uopRows, u &&& uopMask i ≠ uopCode i) ∧ reservedName u = r := by
  unfold decodeUop
  cases h : uopRows.find? (rowMatches u) with
  | some i =>
    have hmatch := rowMatches_iff.1 (List.find?_some h)
    exact ⟨nofun, fun hno => absurd hmatch (hno.1 i (List.mem_of_find?_eq_some h))⟩
  | none =>
    have hno : ∀ i ∈ uopRows, u &&& uopMask i ≠ uopCode i := fun i hi hmatch =>
      List.find?_eq_none.1 h i hi (rowMatches_iff.2 hmatch)
    exact ⟨fun hr => ⟨hno, Except.error.inj hr⟩, fun hr => congrArg Except.error hr.2⟩

/-- A row's word is its code, which is canonical, so it matches its own row. -/
theorem decode_encode_row {i : Instr} (hi : i ∈ uopRows) : decode (encode i) = .ok i := by
  have hrow : ∀ j ∈ uopRows, encode j = .uop (uopCode j) ∧ uopCode j &&& uopMask j = uopCode j := by decide +kernel
  obtain ⟨hword, hcanonical⟩ := hrow i hi
  rw [hword]
  exact decodeUop_eq_ok_iff.2 ⟨hi, hcanonical⟩

/-- Settles O2: a micro-operation's code decodes to its own row; a command's word keeps its command bits. -/
theorem decodeEncodeRoundTrip : Obligations.DecodeEncodeRoundTrip := by
  unfold Obligations.DecodeEncodeRoundTrip
  intro i hwf
  cases i with
  | start v => exact decodeCtrl_eq_ok_iff.2 (.inl ⟨rfl, hwf⟩)
  | clear v => exact decodeCtrl_eq_ok_iff.2 (.inr ⟨rfl, by simpa [Instr.wf] using hwf⟩)
  | _ => exact decode_encode_row (by decide)

/-- Settles O3. -/
theorem decodeFollowsTheOpcodeMap : Obligations.DecodeFollowsTheOpcodeMap := by
  unfold Obligations.DecodeFollowsTheOpcodeMap
  exact ⟨fun _ _ => decodeUop_eq_ok_iff, fun _ _ => decodeCtrl_eq_ok_iff⟩

/-- Settles O1. -/
theorem decodeReadsTheTableWords : Obligations.DecodeReadsTheTableWords := by
  unfold Obligations.DecodeReadsTheTableWords
  decide

/-- The rejects of R103, range by range, over the 256 words. -/
theorem decodeUop_reserved_ranges : ∀ u : BitVec 8,
    (decodeUop u = .error .grpCntClass ↔ 0x95 ≤ u.toNat ∧ u.toNat ≤ 0x97) ∧
    (decodeUop u = .error .entIdClass ↔ 0x9D ≤ u.toNat ∧ u.toNat ≤ 0x9F) ∧
    (decodeUop u = .error .entValClass ↔ 0xA4 ≤ u.toNat ∧ u.toNat ≤ 0xA7) ∧
    (decodeUop u = .error .varLenClass ↔
      (0xA8 ≤ u.toNat ∧ u.toNat ≤ 0xAB) ∨ (0xAD ≤ u.toNat ∧ u.toNat ≤ 0xAF)) ∧
    (decodeUop u = .error .varDataClass ↔
      (0xB0 ≤ u.toNat ∧ u.toNat ≤ 0xB3) ∨ (0xB5 ≤ u.toNat ∧ u.toNat ≤ 0xB7)) ∧
    (decodeUop u = .error .reservedState ↔ 0xC8 ≤ u.toNat ∧ u.toNat ≤ 0xEF) := by
  decide +kernel

/-- Settles O4: the ranges by looking at each word; one row or none by the opcode map. -/
theorem everyUopIsOneRowOrReserved : Obligations.EveryUopIsOneRowOrReserved := by
  unfold Obligations.EveryUopIsOneRowOrReserved
  intro u
  obtain ⟨hgrp, hid, hval, hlen, hdata, hstate⟩ := decodeUop_reserved_ranges u
  refine ⟨hgrp, hid, hval, hlen, hdata, hstate, fun h => ?named, fun ⟨r, h⟩ => (decodeUop_eq_error_iff.1 h).1,
    fun hlive => ?live⟩
  case named =>
    have hname := (decodeUop_eq_error_iff.1 h).2
    unfold reservedName at hname
    split_ifs at hname
  case live =>
    cases hd : decodeUop u with
    | error r => exact absurd hd (hlive r)
    | ok i =>
      obtain ⟨hi, hmatch⟩ := decodeUop_eq_ok_iff.1 hd
      refine ⟨i, hi, hmatch, fun j hj hother => ?_⟩
      cases hd.symm.trans (decodeUop_eq_ok_iff.2 ⟨hj, hother⟩)
      rfl

/-! ### A pop, a hold, a reference -/

/-- A pop on a nonempty OUTQ hands its head to the consumer (R208). -/
theorem popTurn_of_outq_cons (rest : List Move) {s : State} {t : Token} {q : List Token} (h : s.outq = t :: q) :
    popTurn rest s = .next (consume t { s with agenda := rest, outq := q }) := by
  unfold popTurn
  rw [h]

theorem consume_endErr {t : Token} (h : t.tag = tagEndErr) (s : State) :
    consume t s = { s with partialFrame := [] } := by
  simp [consume, h]

theorem consume_of_plain {t : Token} (hok : t.tag ≠ tagEndOk) (herr : t.tag ≠ tagEndErr) (s : State) :
    consume t s = { s with partialFrame := s.partialFrame ++ [t] } := by
  simp [consume, hok, herr]

/-- Settles O37: a pop waits or hands over the head, which the consumer takes by its tag. -/
theorem popTakesTheHeadToken : Obligations.PopTakesTheHeadToken := by
  unfold Obligations.PopTakesTheHeadToken
  intro s rest hpop
  rw [step_of_pop hpop]
  refine ⟨popTurn_of_outq_nil rest, fun t q hq => ?_⟩
  rw [popTurn_of_outq_cons rest hq]
  refine ⟨fun hok => ?_, fun herr => ?_, fun hok herr => ?_⟩
  · rw [consume_endOk hok]
  · rw [consume_endErr herr]
  · rw [consume_of_plain hok herr]

/-- An error with no free place in OUTQ is held (R96). -/
theorem raiseError_of_full {i : Instr} {s : State} (h : hasRoom 1 s = false) (e : ErrKind) :
    raiseError i e s = .next s := by
  unfold raiseError
  rw [h]
  rfl

/-- Settles O15: a hold is decided before the row's own rule is looked at; OUT_DEPTH ≥ 2 covers every row. -/
theorem holdChangesNothing : Obligations.HoldChangesNothing := by
  unfold Obligations.HoldChangesNothing
  refine ⟨fun i hi s => ⟨exec_hold hi, fun hshort hfull => ?truncated⟩, fun s hlen hfull => ?tooShort,
    fun s hlen hfull => ?longEnough, fun s i hq => ⟨hasRoom_of_empty hq (successTokens_le_two i),
      hasRoom_of_empty hq (by decide)⟩⟩
  case truncated => rw [exec_truncated hi hshort, raiseError_of_full hfull]
  case tooShort =>
    rcases execLenChk_cases s with ⟨-, hx⟩ | ⟨hlong, -⟩ | ⟨hlong, -⟩
    · rw [hx, raiseError_of_full hfull]
    · omega
    · omega
  case longEnough =>
    rcases execLenChk_cases s with ⟨hshort, -⟩ | ⟨-, hroom, -⟩ | ⟨-, -, hx⟩
    · omega
    · exact absurd (hroom.symm.trans hfull) (by decide)
    · exact hx

/-- Settles O29: after the read the entry ends (R160), with another entry to come or with the record's end. -/
theorem varDataIsDeliveredByReference : Obligations.VarDataIsDeliveredByReference := by
  unfold Obligations.VarDataIsDeliveredByReference
  intro s bs ready
  have hexec : exec .varData s = .next (emit [fieldToken .varData s.recDone s.id (refValue s.pos (s.n.setWidth 32))]
      (endEntry 4#3 (advance s.n.toNat s))) := by
    show execVarData s = _
    unfold execVarData
    rw [extract_ready _ ready, finish_commit]
    rfl
  have hpos : BitVec.ofNat 32 s.n.toNat = s.n.setWidth 32 := BitVec.eq_of_toNat_eq (by simp)
  have hidx : BitVec.ofNat 16 (s.idx.toNat + 1) = s.idx + 1#16 := BitVec.eq_of_toNat_eq (by simp)
  have hrec : BitVec.ofNat 8 (s.recDone.toNat + 1) = s.recDone + 1#8 := BitVec.eq_of_toNat_eq (by simp)
  refine ⟨ready_length ready, fun hmore => ?_, fun hlast => ?_⟩
  · rcases endEntry_cases 4#3 (advance s.n.toNat s) with ⟨hlast, -⟩ | ⟨-, hnext⟩
    · exact absurd hlast hmore
    · rw [hexec, hnext, advance_eq, hpos, ← hidx]
      rfl
  · rcases endEntry_cases 4#3 (advance s.n.toNat s) with ⟨-, hnext⟩ | ⟨hmore, -⟩
    · rw [hexec, hnext, advance_eq, hpos, ← hidx, ← hrec]
      rfl
    · exact absurd hlast hmore

end Sys2Proof.Machine


namespace Sys2Proof.Machine

/-! ### CODEC and FLEN steer nothing (R87, R127) -/

/-- Other values in CODEC and FLEN. -/
def withCodecFlen (c : BitVec 8) (f : Word) (s : State) : State := { s with codec := c, flen := f }

/-- What a rule does, its registers changed by `w`. -/
def Effect.map (w : State → State) : Effect → Effect
  | .commit ts t => .commit ts (w t)
  | .raise e => .raise e

/-- What a step answers, its next state changed by `w`. -/
def mapNext (w : State → State) : Host.Outcome State Fault Refusal → Host.Outcome State Fault Refusal
  | .next s => .next (w s)
  | .fault r => .fault r
  | .refused r => .refused r

section CodecFlen
variable (c : BitVec 8) (f : Word)

theorem readWidth_withCodecFlen (i : Instr) (s : State) : readWidth i (withCodecFlen c f s) = readWidth i s := by
  cases i <;> rfl

theorem raiseError_withCodecFlen (i : Instr) (e : ErrKind) (s : State) :
    raiseError i e (withCodecFlen c f s) = mapNext (withCodecFlen c f) (raiseError i e s) := by
  cases hroom : hasRoom 1 s with
  | true => rw [raiseError_of_room hroom, raiseError_of_room (s := withCodecFlen c f s) hroom]; rfl
  | false => rw [raiseError_of_full hroom, raiseError_of_full (s := withCodecFlen c f s) hroom]; rfl

theorem finish_withCodecFlen (i : Instr) (s : State) (x : Effect) :
    finish i (withCodecFlen c f s) (x.map (withCodecFlen c f)) = mapNext (withCodecFlen c f) (finish i s x) := by
  cases x with
  | commit ts t => rfl
  | raise e => exact raiseError_withCodecFlen c f i e s

/-- A reading step itself neither tests nor writes CODEC and FLEN: it depends on them only through its rule. -/
theorem extract_withCodecFlen {i : Instr} {body body' : List Byte → State → Effect} {s : State}
    (h : ∀ bs t, body' bs (withCodecFlen c f t) = (body bs t).map (withCodecFlen c f)) :
    extract i body' (withCodecFlen c f s) = mapNext (withCodecFlen c f) (extract i body s) := by
  have hfinish : ∀ bs, finish i (withCodecFlen c f s) (body' bs (withCodecFlen c f (advance (readWidth i s) s))) =
      mapNext (withCodecFlen c f) (finish i s (body bs (advance (readWidth i s) s))) := fun bs => by
    rw [h, finish_withCodecFlen]
  have hraise := raiseError_withCodecFlen c f i .truncatedFrame s
  unfold extract
  rw [readWidth_withCodecFlen]
  by_cases hin : s.pos.toNat + readWidth i s ≤ s.len.toNat
  · rw [if_pos (show (withCodecFlen c f s).pos.toNat + readWidth i s ≤ (withCodecFlen c f s).len.toNat from hin),
      if_pos hin]
    cases hroom : hasRoom (successTokens i) s with
    | false => rw [show hasRoom (successTokens i) (withCodecFlen c f s) = false from hroom]; rfl
    | true =>
      rw [show hasRoom (successTokens i) (withCodecFlen c f s) = true from hroom, if_pos rfl, if_pos rfl,
        show (withCodecFlen c f s).buf = s.buf from rfl, show (withCodecFlen c f s).pos = s.pos from rfl]
      cases readBytes s.buf s.pos.toNat (readWidth i s) with
      | some bs => exact hfinish bs
      | none => rfl
  · rw [if_neg (show ¬(withCodecFlen c f s).pos.toNat + readWidth i s ≤ (withCodecFlen c f s).len.toNat from hin),
      if_neg hin, hraise]

theorem endGroup_withCodecFlen (k : BitVec 3) (sk : Nat) (s : State) :
    endGroup k sk (withCodecFlen c f s) = withCodecFlen c f (endGroup k sk s) := by
  unfold endGroup
  split <;> rfl

theorem endEntry_withCodecFlen (k : BitVec 3) (s : State) :
    endEntry k (withCodecFlen c f s) = withCodecFlen c f (endEntry k s) := by
  unfold endEntry
  rw [apply_ite (withCodecFlen c f)]
  congr 1
  exact endGroup_withCodecFlen c f k s.sumk.toNat { s with idx := BitVec.ofNat 16 (s.idx.toNat + 1) }

theorem execHdrImei_withCodecFlen (s : State) :
    execHdrImei (withCodecFlen c f s) = mapNext (withCodecFlen c f) (execHdrImei s) := by
  refine extract_withCodecFlen c f fun bs t => ?_
  cases allAscii bs <;> rfl

theorem groupCount_withCodecFlen (i : Instr) (k : BitVec 3) (s : State) :
    groupCount i k (withCodecFlen c f s) = mapNext (withCodecFlen c f) (groupCount i k s) := by
  refine extract_withCodecFlen c f fun bs t => congrArg (Effect.commit _) ?_
  rw [apply_ite (withCodecFlen c f)]
  congr 1
  exact endGroup_withCodecFlen c f k (s.sumk.toNat + (field 16 bs).toNat)
    { t with k := field 16 bs, idx := 0#16, sumk := BitVec.ofNat 19 (s.sumk.toNat + (field 16 bs).toNat) }

theorem entryValue_withCodecFlen (i : Instr) (k : BitVec 3) (pack : List Byte → DWord) (s : State) :
    entryValue i k pack (withCodecFlen c f s) = mapNext (withCodecFlen c f) (entryValue i k pack s) :=
  extract_withCodecFlen c f fun _ _ => congrArg (Effect.commit _) (endEntry_withCodecFlen ..)

theorem execVarData_withCodecFlen (s : State) :
    execVarData (withCodecFlen c f s) = mapNext (withCodecFlen c f) (execVarData s) :=
  extract_withCodecFlen c f fun _ _ => congrArg (Effect.commit _) (endEntry_withCodecFlen ..)

theorem execLenChk_withCodecFlen (s : State) :
    execLenChk (withCodecFlen c f s) = mapNext (withCodecFlen c f) (execLenChk s) := by
  unfold execLenChk
  rw [apply_ite (mapNext (withCodecFlen c f)), apply_ite (mapNext (withCodecFlen c f)), ← raiseError_withCodecFlen]
  rfl

/-- Every micro-operation but HDR_CODEC and HDR_FLEN does the same whatever CODEC and FLEN hold. -/
theorem exec_withCodecFlen {i : Instr} (hi : i ∈ uopRows) (hcodec : i ≠ .hdrCodec) (hflen : i ≠ .hdrFlen) (s : State) :
    exec i (withCodecFlen c f s) = mapNext (withCodecFlen c f) (exec i s) := by
  cases i with
  | start _ | clear _ => simp [uopRows] at hi
  | hdrCodec => exact absurd rfl hcodec
  | hdrFlen => exact absurd rfl hflen
  | idle | done | error => rfl
  | lenChk => exact execLenChk_withCodecFlen c f s
  | hdrImei => exact execHdrImei_withCodecFlen c f s
  | grpCnt1 | grpCnt2 | grpCnt4 | grpCnt8 | grpCntX => exact groupCount_withCodecFlen c f _ _ s
  | entVal1 | entVal2 | entVal4 | entVal8 => exact entryValue_withCodecFlen c f _ _ _ s
  | varData => exact execVarData_withCodecFlen c f s
  | hdrPre | hdrZero | hdrNrec | recTs | recPrio | recLon | recLat | recAlt | recAng | recSat | recSpd | ioEvid
  | ioTotal | entId1 | entId2 | entId4 | entId8 | entIdX | varLen | ftrNrec2 | ftrCrc =>
    simp only [exec, execHdrPre, execHdrZero, execHdrNrec, recordField, execRecTs, execRecPrio, execRecLon, execRecLat,
      execRecAlt, execRecAng, execRecSat, execRecSpd, execIoEvid, execIoTotal, entryId, execEntId1, execEntId2,
      execEntId4, execEntId8, execEntIdX, execVarLen, execFtrNrec2, execFtrCrc]
    exact extract_withCodecFlen c f fun _ _ => rfl

end CodecFlen

/-- Settles O50: row by row; no rule but HDR_CODEC's and HDR_FLEN's speaks of the two registers. -/
theorem codecAndFlenSelectNothing : Obligations.CodecAndFlenSelectNothing := by
  unfold Obligations.CodecAndFlenSelectNothing
  intro i hi hcodec hflen s s' c f h
  have hmap := exec_withCodecFlen c f hi hcodec hflen s
  rw [h] at hmap
  exact hmap

end Sys2Proof.Machine


namespace Sys2Proof.Machine

/-! ### What the pieces of DECODE take (R80 to R86) -/

/-- From the unread bytes `bs` exactly `n` were taken, and `r` is left. -/
def Takes (n : Nat) (bs r : List Byte) : Prop := n ≤ bs.length ∧ r = bs.drop n

theorem Takes.refl (bs : List Byte) : Takes 0 bs bs := ⟨Nat.zero_le _, rfl⟩

theorem Takes.trans {m n : Nat} {bs q r : List Byte} (hm : Takes m bs q) (hn : Takes n q r) : Takes (m + n) bs r := by
  obtain ⟨hmle, rfl⟩ := hm
  obtain ⟨hnle, rfl⟩ := hn
  rw [List.length_drop] at hnle
  exact ⟨by omega, List.drop_drop⟩

theorem Takes.length {n : Nat} {bs r : List Byte} (h : Takes n bs r) : bs.length = n + r.length := by
  obtain ⟨hle, rfl⟩ := h
  rw [List.length_drop]
  omega

theorem rd_takes {n : Nat} {bs d r : List Byte} (h : rd n bs = .ok (d, r)) : Takes n bs r :=
  have ⟨hle, _, hr⟩ := rd_ok.1 h
  ⟨hle, hr⟩

theorem rdField_takes {w : Nat} {bs r : List Byte} {v : BitVec w} (h : rdField w bs = .ok (v, r)) :
    Takes (w / 8) bs r :=
  have ⟨hle, _, hr⟩ := rdField_ok.1 h
  ⟨hle, hr⟩

theorem rdImei_ok {bs r : List Byte} {v : Vector Byte 15} (h : rdImei bs = .ok (v, r)) :
    ∃ b, rd 15 bs = .ok (b, r) ∧ allAscii b = true ∧ v = imeiOf b := by
  obtain ⟨b, r', hrd, hcheck⟩ := bind_ok.1 h
  split at hcheck
  · rename_i hascii
    obtain ⟨rfl, rfl⟩ := pure_ok.1 hcheck
    exact ⟨b, hrd, hascii, rfl⟩
  · cases hcheck

/-- A repetition takes what its values take, one after the other; `total` is their sum. -/
theorem repeatRead_takes {α : Type} {p : Parser α} {size : α → Nat} {total : List α → Nat}
    (hp : ∀ {bs a r}, p bs = .ok (a, r) → Takes (size a) bs r) (hnil : total [] = 0)
    (hcons : ∀ a as, total (a :: as) = size a + total as) {n : Nat} {bs r : List Byte} {as : List α}
    (h : repeatRead p n bs = .ok (as, r)) : Takes (total as) bs r := by
  induction n generalizing bs as with
  | zero =>
    obtain ⟨rfl, rfl⟩ := repeatRead_zero.1 h
    rw [hnil]
    exact .refl _
  | succ n ih =>
    obtain ⟨a, as', r', rfl, ha, has⟩ := repeatRead_succ.1 h
    rw [hcons]
    exact (hp ha).trans (ih has)

theorem rdGroup_ok {α : Type} {p : Parser α} {bs r : List Byte} {as : List α} :
    rdGroup p bs = .ok (as, r) ↔ ∃ k r', rdField 16 bs = .ok (k, r') ∧ repeatRead p k.toNat r' = .ok (as, r) := bind_ok

theorem rdFixedEntry_takes {w : Nat} {bs r : List Byte} {e : FixedEntry w} (h : rdFixedEntry w bs = .ok (e, r)) :
    Takes (2 + w / 8) bs r := by
  obtain ⟨id, r1, hid, h⟩ := bind_ok.1 h
  obtain ⟨v, r2, hv, h⟩ := bind_ok.1 h
  obtain ⟨-, rfl⟩ := pure_ok.1 h
  exact (rdField_takes hid).trans (rdField_takes hv)

theorem rdVarEntry_ok {bs r : List Byte} {e : VarEntry} (h : rdVarEntry bs = .ok (e, r)) :
    ∃ r', Takes 4 bs r' ∧ rd e.length.toNat r' = .ok (e.data, r) := by
  obtain ⟨id, r1, hid, h⟩ := bind_ok.1 h
  obtain ⟨n, r2, hn, h⟩ := bind_ok.1 h
  obtain ⟨d, r3, hd, h⟩ := bind_ok.1 h
  obtain ⟨rfl, rfl⟩ := pure_ok.1 h
  exact ⟨r2, (rdField_takes hid).trans (rdField_takes hn), hd⟩

theorem rdVarEntry_takes {bs r : List Byte} {e : VarEntry} (h : rdVarEntry bs = .ok (e, r)) :
    Takes (varEntrySize e) bs r := by
  obtain ⟨r', hhead, hdata⟩ := rdVarEntry_ok h
  exact hhead.trans (rd_takes hdata)

theorem rdFixedGroup_takes {w : Nat} {bs r : List Byte} {es : List (FixedEntry w)}
    (h : rdGroup (rdFixedEntry w) bs = .ok (es, r)) : Takes (2 + (2 + w / 8) * es.length) bs r := by
  obtain ⟨k, r', hk, hes⟩ := rdGroup_ok.1 h
  refine (rdField_takes hk).trans (repeatRead_takes (total := fun es => (2 + w / 8) * es.length) rdFixedEntry_takes
    (Nat.mul_zero _) (fun a as => ?_) hes)
  rw [List.length_cons, Nat.mul_succ, Nat.add_comm]

theorem rdVarGroup_ok {bs r : List Byte} {es : List VarEntry} (h : rdGroup rdVarEntry bs = .ok (es, r)) :
    ∃ r', Takes 2 bs r' ∧ repeatRead rdVarEntry es.length r' = .ok (es, r) := by
  obtain ⟨k, r', hk, hes⟩ := rdGroup_ok.1 h
  refine ⟨r', rdField_takes hk, ?_⟩
  rwa [repeatRead_length hes]

theorem repeatRead_rdVarEntry_takes {n : Nat} {bs r : List Byte} {es : List VarEntry}
    (h : repeatRead rdVarEntry n bs = .ok (es, r)) : Takes (varEntriesSize es) bs r :=
  repeatRead_takes rdVarEntry_takes rfl (fun _ _ => rfl) h

/-- A record's variable entries stand `varStart` bytes after its start, and end the record (R81, R82). -/
theorem rdRecord_ok {bs r : List Byte} {a : AvlRecord} (h : rdRecord bs = .ok (a, r)) :
    ∃ r', Takes (varStart a) bs r' ∧ repeatRead rdVarEntry a.io.g4.length r' = .ok (a.io.g4, r) := by
  unfold rdRecord at h
  simp only [bind_ok, pure_ok] at h
  obtain ⟨_, _, hts, _, _, hprio, _, _, hlon, _, _, hlat, _, _, halt, _, _, hang, _, _, hsat, _, _, hspd, io, _, hio,
    rfl, rfl⟩ := h
  unfold rdIOElement at hio
  simp only [bind_ok, pure_ok] at hio
  obtain ⟨_, _, hevid, _, _, htotal, g0, _, hg0, g1, _, hg1, g2, _, hg2, g3, _, hg3, g4, _, hg4, rfl, rfl⟩ := hio
  obtain ⟨r', hk, hg4⟩ := rdVarGroup_ok hg4
  refine ⟨r', ?_, hg4⟩
  have htaken := ((((((rdField_takes hts).trans (rdField_takes hprio)).trans (rdField_takes hlon)).trans
    (rdField_takes hlat)).trans (rdField_takes halt)).trans (rdField_takes hang)).trans (rdField_takes hsat)
  have htaken := (((((((htaken.trans (rdField_takes hspd)).trans (rdField_takes hevid)).trans
    (rdField_takes htotal)).trans (rdFixedGroup_takes hg0)).trans (rdFixedGroup_takes hg1)).trans
    (rdFixedGroup_takes hg2)).trans (rdFixedGroup_takes hg3)).trans hk
  convert htaken using 1
  simp only [varStart]
  omega

theorem rdRecord_takes {bs r : List Byte} {a : AvlRecord} (h : rdRecord bs = .ok (a, r)) :
    Takes (recordSize a) bs r := by
  obtain ⟨r', hhead, hvar⟩ := rdRecord_ok h
  exact hhead.trans (repeatRead_rdVarEntry_takes hvar)

theorem repeatRead_rdRecord_takes {n : Nat} {bs r : List Byte} {rs : List AvlRecord}
    (h : repeatRead rdRecord n bs = .ok (rs, r)) : Takes (recordsSize rs) bs r :=
  repeatRead_takes rdRecord_takes rfl (fun _ _ => rfl) h

/-- The parts of a frame in order: preamble, identity, the other header fields, records, footer (R80, R84). -/
theorem rdFrame_ok {bs r : List Byte} {f : Frame} (h : rdFrame bs = .ok (f, r)) :
    ∃ b₁ d b₂ b₃ b₄, Takes 2 bs b₁ ∧ rd 15 b₁ = .ok (d, b₂) ∧ f.imei = imeiOf d ∧ Takes 10 b₂ b₃ ∧
      repeatRead rdRecord f.nrec.toNat b₃ = .ok (f.records, b₄) ∧ Takes 5 b₄ r := by
  unfold rdFrame at h
  simp only [bind_ok, pure_ok] at h
  obtain ⟨_, b₁, hpre, _, b₂, himei, _, _, hzero, _, _, hflen, _, _, hcodec, _, b₃, hnrec, _, b₄, hrecords, _, _,
    hnrec2, _, _, hcrc, rfl, rfl⟩ := h
  obtain ⟨d, hd, -, rfl⟩ := rdImei_ok himei
  exact ⟨b₁, d, b₂, b₃, b₄, rd_takes hpre, hd, rfl,
    (((rd_takes hzero).trans (rdField_takes hflen)).trans (rdField_takes hcodec)).trans (rdField_takes hnrec),
    hrecords, (rdField_takes hnrec2).trans (rdField_takes hcrc)⟩

theorem rdFrame_takes {bs r : List Byte} {f : Frame} (h : rdFrame bs = .ok (f, r)) : Takes (frameSize f) bs r := by
  obtain ⟨b₁, d, b₂, b₃, b₄, hpre, hd, -, hfields, hrecords, hfooter⟩ := rdFrame_ok h
  exact (((hpre.trans (rd_takes hd)).trans hfields).trans (repeatRead_rdRecord_takes hrecords)).trans hfooter

/-- Settles O57: the pieces take the sizes that SIZE adds up. -/
theorem consumedBytesAreTheFrameSize : Obligations.ConsumedBytesAreTheFrameSize := by
  unfold Obligations.ConsumedBytesAreTheFrameSize
  intro bs f p h
  obtain ⟨r, hframe, rfl⟩ := decodeFrame_ok h
  have hlength := (rdFrame_takes hframe).length
  refine ⟨by omega, by omega, ?_, fun a _ => ?_⟩
  · simp only [frameSize, Config.hdrBytes, Config.ftrBytes] at hlength
    omega
  · unfold recordSize
    omega

/-! ### Where DECODE fails (R85, R129) -/

/-- A piece that fails only for want of bytes. -/
def OnlyTruncates {α : Type} (p : Parser α) : Prop := ∀ bs e, p bs = .error e → e = .truncatedFrame

theorem OnlyTruncates.bind {α β : Type} {p : Parser α} {f : α → Parser β} (hp : OnlyTruncates p)
    (hf : ∀ a, OnlyTruncates (f a)) : OnlyTruncates (p >>= f) := by
  intro bs e h
  rcases bind_error.1 h with hfail | ⟨a, r, -, hfail⟩
  · exact hp _ _ hfail
  · exact hf a _ _ hfail

theorem onlyTruncates_pure {α : Type} (a : α) : OnlyTruncates (pure a) := fun _ _ h => absurd h pure_error

theorem onlyTruncates_rd (n : Nat) : OnlyTruncates (rd n) := fun _ _ h => (rd_error.1 h).2

theorem onlyTruncates_rdField (w : Nat) : OnlyTruncates (rdField w) := fun _ _ h => (rdField_error.1 h).2

theorem OnlyTruncates.repeatRead {α : Type} {p : Parser α} (hp : OnlyTruncates p) (n : Nat) :
    OnlyTruncates (repeatRead p n) := by
  induction n with
  | zero => exact onlyTruncates_pure []
  | succ n ih => exact hp.bind fun a => ih.bind fun as => onlyTruncates_pure (a :: as)

theorem OnlyTruncates.rdGroup {α : Type} {p : Parser α} (hp : OnlyTruncates p) : OnlyTruncates (rdGroup p) :=
  (onlyTruncates_rdField 16).bind fun k => hp.repeatRead k.toNat

theorem onlyTruncates_rdFixedEntry (w : Nat) : OnlyTruncates (rdFixedEntry w) :=
  (onlyTruncates_rdField 16).bind fun _ => (onlyTruncates_rdField w).bind fun _ => onlyTruncates_pure _

theorem onlyTruncates_rdVarEntry : OnlyTruncates rdVarEntry :=
  (onlyTruncates_rdField 16).bind fun _ => (onlyTruncates_rdField 16).bind fun n =>
    (onlyTruncates_rd n.toNat).bind fun _ => onlyTruncates_pure _

theorem onlyTruncates_rdIOElement : OnlyTruncates rdIOElement :=
  (onlyTruncates_rdField 16).bind fun _ => (onlyTruncates_rdField 16).bind fun _ =>
  (onlyTruncates_rdFixedEntry 8).rdGroup.bind fun _ => (onlyTruncates_rdFixedEntry 16).rdGroup.bind fun _ =>
  (onlyTruncates_rdFixedEntry 32).rdGroup.bind fun _ => (onlyTruncates_rdFixedEntry 64).rdGroup.bind fun _ =>
  onlyTruncates_rdVarEntry.rdGroup.bind fun _ => onlyTruncates_pure _

theorem onlyTruncates_rdRecord : OnlyTruncates rdRecord :=
  (onlyTruncates_rdField 64).bind fun _ => (onlyTruncates_rdField 8).bind fun _ =>
  (onlyTruncates_rdField 32).bind fun _ => (onlyTruncates_rdField 32).bind fun _ =>
  (onlyTruncates_rdField 16).bind fun _ => (onlyTruncates_rdField 16).bind fun _ =>
  (onlyTruncates_rdField 8).bind fun _ => (onlyTruncates_rdField 16).bind fun _ =>
  onlyTruncates_rdIOElement.bind fun _ => onlyTruncates_pure _

/-- The identity fails as its fifteen bytes do, or for a byte at or above 0x80. -/
theorem rdImei_error {bs : List Byte} {e : ErrKind} :
    rdImei bs = .error e ↔
      (bs.length < 15 ∧ e = .truncatedFrame) ∨
      (15 ≤ bs.length ∧ allAscii (bs.take 15) = false ∧ e = .invalidEncoding) := by
  have hcheck : ∀ b r, (if allAscii b then pure (imeiOf b) else throw .invalidEncoding : Parser (Vector Byte 15)) r =
      .error e ↔ allAscii b = false ∧ e = .invalidEncoding := fun b r => by
    cases allAscii b with
    | true => simpa using pure_error
    | false =>
      show Except.error ErrKind.invalidEncoding = _ ↔ _
      simp [eq_comm]
  unfold rdImei
  simp only [bind_error, rd_error, rd_ok, hcheck]
  simp

/-- DECODE's parser fails with InvalidEncoding exactly at the identity; every other failure is a short read. -/
theorem rdFrame_error {bs : List Byte} {e : ErrKind} (h : rdFrame bs = .error e) :
    e = .truncatedFrame ∨ (allAscii ((bs.drop 2).take 15) = false ∧ e = .invalidEncoding) := by
  rcases bind_error.1 h with hpre | ⟨_, r, hpre, h⟩
  · exact .inl (rd_error.1 hpre).2
  · obtain ⟨-, -, rfl⟩ := rd_ok.1 hpre
    rcases bind_error.1 h with himei | ⟨_, r, -, h⟩
    · rcases rdImei_error.1 himei with ⟨-, htruncated⟩ | ⟨-, hascii, hencoding⟩
      · exact .inl htruncated
      · exact .inr ⟨hascii, hencoding⟩
    · refine .inl (OnlyTruncates.bind (onlyTruncates_rd 4) (fun _ => ?_) _ _ h)
      exact (onlyTruncates_rdField 32).bind fun _ => (onlyTruncates_rdField 8).bind fun _ =>
        (onlyTruncates_rdField 8).bind fun n => (onlyTruncates_rdRecord.repeatRead n.toNat).bind fun _ =>
        (onlyTruncates_rdField 8).bind fun _ => (onlyTruncates_rdField 32).bind fun _ => onlyTruncates_pure _

theorem decodeFrame_of_short {bs : List Byte} (h : bs.length < 20) : decodeFrame bs = .error .invalidLength := if_pos h

theorem decodeFrame_error_iff {bs : List Byte} (h : 20 ≤ bs.length) {e : ErrKind} :
    decodeFrame bs = .error e ↔ rdFrame bs = .error e := by
  unfold decodeFrame
  rw [if_neg (show ¬bs.length < Config.minLen from Nat.not_lt.2 h)]
  cases rdFrame bs <;> simp

/-- Settles O58: the identity comes before any other failure from 20 bytes on, and a whole frame takes 32. -/
theorem headerTruncationPoints : Obligations.HeaderTruncationPoints := by
  unfold Obligations.HeaderTruncationPoints
  intro bs
  refine ⟨decodeFrame_of_short, fun hlen hbad => ?badIdentity, fun hlen hshort hgood => ?short⟩
  case badIdentity =>
    have hpre : rd 2 bs = .ok (bs.take 2, bs.drop 2) := rd_ok.2 ⟨by omega, rfl, rfl⟩
    have himei : rdImei (bs.drop 2) = .error .invalidEncoding :=
      rdImei_error.2 (.inr ⟨by rw [List.length_drop]; omega, hbad, rfl⟩)
    exact (decodeFrame_error_iff hlen).2 (bind_error.2 (.inr ⟨_, _, hpre, bind_error.2 (.inl himei)⟩))
  case short =>
    cases hd : decodeFrame bs with
    | ok fp =>
      obtain ⟨-, hle, hmin, -⟩ := consumedBytesAreTheFrameSize bs fp.1 fp.2 hd
      omega
    | error e =>
      rcases rdFrame_error ((decodeFrame_error_iff hlen).1 hd) with rfl | ⟨hbad, -⟩
      · rfl
      · exact absurd (hgood.symm.trans hbad) (by decide)

end Sys2Proof.Machine


namespace Sys2Proof.Machine

/-! ### BUF that holds bytes still to be read -/

/-- BUF `m` holds the bytes `bs` from offset `p` up, all of them at 32-bit offsets. -/
structure Holds (m : Memory) (p : Nat) (bs : List Byte) : Prop where
  bytes : ∀ j, j < bs.length → readByte m (p + j) = bs[j]?
  bound : p + bs.length < 2 ^ 32

theorem Holds.takes {m : Memory} {p n : Nat} {bs r : List Byte} (h : Holds m p bs) (ht : Takes n bs r) :
    Holds m (p + n) r := by
  have hlength := ht.length
  refine ⟨fun j hj => ?_, by have := h.bound; omega⟩
  rw [ht.2, List.getElem?_drop, Nat.add_assoc]
  exact h.bytes (n + j) (by omega)

/-- What the engine or the host reads there is what rd gives. -/
theorem Holds.readBytes {m : Memory} {p n : Nat} {bs d r : List Byte} (h : Holds m p bs) (hrd : rd n bs = .ok (d, r)) :
    readBytes m p n = some d := by
  obtain ⟨hle, rfl, -⟩ := rd_ok.1 hrd
  refine readBytes_of_readByte (List.length_take_of_le hle) fun j hj => ?_
  rw [h.bytes j (by omega), List.getElem?_take_of_lt hj]

/-! ### The host rebuilds the Frame (R100, R101) -/

theorem setWidth_zext64 {w : Nat} (v : BitVec w) (h : w ≤ 64) : (zext64 v).setWidth w = v := by
  rw [zext64, BitVec.setWidth_setWidth_of_le _ h, BitVec.setWidth_eq]

/-- A coordinate token carries the raw word in its low half (R97). -/
theorem setWidth_coordValue (u : Word) : (coordValue u).setWidth 32 = u := by
  rw [coordValue, BitVec.setWidth_append_eq_right]

theorem refValue_start (a b : Word) : (refValue a b).extractLsb' 32 32 = a := BitVec.extractLsb'_append_eq_left

theorem refValue_length (a b : Word) : (refValue a b).extractLsb' 0 32 = b := BitVec.extractLsb'_append_eq_right

theorem refValue_length16 (a : Word) (n : BitVec 16) : (refValue a (n.setWidth 32)).setWidth 16 = n := by
  rw [refValue, ← BitVec.setWidth_setWidth_of_le _ (show 16 ≤ 32 by decide), BitVec.setWidth_append_eq_right,
    BitVec.setWidth_setWidth_of_le _ (show 16 ≤ 32 by decide), BitVec.setWidth_eq]

/-- A reference to bytes that BUF holds denotes them (R101, R257). -/
theorem deref_refValue {m : Memory} {p : Nat} {n : BitVec 16} {bs d r : List Byte} (h : Holds m p bs)
    (hrd : rd n.toNat bs = .ok (d, r)) : deref m (refValue (BitVec.ofNat 32 p) (n.setWidth 32)) = some d := by
  have hstart : (BitVec.ofNat 32 p).toNat = p := by
    rw [BitVec.toNat_ofNat]
    exact Nat.mod_eq_of_lt (by have := h.bound; omega)
  have hlength : (n.setWidth 32).toNat = n.toNat := BitVec.toNat_setWidth_of_le (by decide)
  rw [deref, refValue_start, refValue_length, hstart, hlength]
  exact h.readBytes hrd

theorem rebuildFrom_append {m : Memory} {f g : Frame} {ts us : List Token} (h : rebuildFrom m f ts = some g) :
    rebuildFrom m f (ts ++ us) = rebuildFrom m g us := by
  induction ts generalizing f with
  | nil => cases h; rfl
  | cons t ts ih =>
    simp only [List.cons_append, rebuildFrom] at h ⊢
    cases hstep : rebuildStep m f t with
    | some f' =>
      rw [hstep] at h
      exact ih h
    | none =>
      rw [hstep] at h
      cases h

theorem modifyLast_concat (g : AvlRecord → AvlRecord) (rs : List AvlRecord) (r : AvlRecord) :
    modifyLast g (rs ++ [r]) = rs ++ [g r] := by
  induction rs with
  | nil => rfl
  | cons a rs ih =>
    cases rs with
    | nil => rfl
    | cons b rs => exact congrArg (a :: ·) ih

/-- A Frame being rebuilt with one more record. -/
def withRecord (f : Frame) (r : AvlRecord) : Frame := { f with records := f.records ++ [r] }

theorem modifyIO_withRecord (g : IOElement → IOElement) (f : Frame) (r : AvlRecord) :
    modifyIO g (withRecord f r) = withRecord f { r with io := g r.io } := by
  simp [modifyIO, withRecord, modifyLast_concat]

section Rebuild
variable (m : Memory) (f : Frame)

/-- Tokens that each add their entry to the last record add the entries in order. -/
theorem rebuildFrom_entries {α : Type} {add : IOElement → List α → IOElement} (hnil : ∀ o, add o [] = o)
    (hcons : ∀ o e es, add (add o [e]) es = add o (e :: es)) {es : List α} {ts : List Token}
    (h : List.Forall₂ (fun e t => ∀ r : AvlRecord,
      rebuildStep m (withRecord f r) t = some (withRecord f { r with io := add r.io [e] })) es ts) (r : AvlRecord) :
    rebuildFrom m (withRecord f r) ts = some (withRecord f { r with io := add r.io es }) := by
  induction h generalizing r with
  | nil => rw [hnil]; rfl
  | cons hstep _ ih =>
    rw [rebuildFrom, hstep]
    simp only [ih, hcons]

/-- A count token changes nothing: the host counts the entries themselves. -/
theorem rebuildStep_countToken {i : Instr} (hi : i ∈ [Instr.grpCnt1, .grpCnt2, .grpCnt4, .grpCnt8, .grpCntX])
    (recNo : BitVec 8) (k : Nat) : rebuildStep m f (countToken i recNo k) = some f := by
  simp only [List.mem_cons, List.not_mem_nil, or_false] at hi
  rcases hi with rfl | rfl | rfl | rfl | rfl <;> rfl

/-- A fixed-class sub-group: `add` appends to its group, as its value's token says. -/
theorem rebuildFrom_groupTokens {w : Nat} {cnt val : Instr} {recNo : BitVec 8}
    {add : IOElement → List (FixedEntry w) → IOElement} (hnil : ∀ o, add o [] = o)
    (hcons : ∀ o e es, add (add o [e]) es = add o (e :: es))
    (hcnt : cnt ∈ [Instr.grpCnt1, .grpCnt2, .grpCnt4, .grpCnt8, .grpCntX])
    (hval : ∀ (e : FixedEntry w) (r : AvlRecord),
      rebuildStep m (withRecord f r) (fieldToken val recNo e.ioId (zext64 e.value)) =
        some (withRecord f { r with io := add r.io [e] })) (es : List (FixedEntry w)) (r : AvlRecord) :
    rebuildFrom m (withRecord f r) (groupTokens cnt val recNo es) =
      some (withRecord f { r with io := add r.io es }) := by
  rw [groupTokens, rebuildFrom, rebuildStep_countToken m _ hcnt]
  refine rebuildFrom_entries m f hnil hcons ?_ r
  rw [List.forall₂_map_right_iff]
  exact List.forall₂_same.2 fun e _ => hval e

/-- The first ten tokens of a record open it with its fields and no entry (R100). -/
theorem rebuildFrom_recordFields (recNo : BitVec 8) (r : AvlRecord) :
    rebuildFrom m f [ fieldToken .recTs recNo 0#16 r.timestamp,
      fieldToken .recPrio recNo 0#16 (zext64 r.priority),
      fieldToken .recLon recNo 0#16 (coordValue r.position.lonRaw),
      fieldToken .recLat recNo 0#16 (coordValue r.position.latRaw),
      fieldToken .recAlt recNo 0#16 (zext64 r.position.altitude),
      fieldToken .recAng recNo 0#16 (zext64 r.position.angle),
      fieldToken .recSat recNo 0#16 (zext64 r.position.satellites),
      fieldToken .recSpd recNo 0#16 (zext64 r.position.speed),
      fieldToken .ioEvid recNo 0#16 (zext64 r.io.eventId),
      fieldToken .ioTotal recNo 0#16 (zext64 r.io.total) ] =
    some (withRecord f { r with io := { r.io with g0 := [], g1 := [], g2 := [], g3 := [], g4 := [] } }) := by
  have hopen : rebuildStep m f (fieldToken .recTs recNo 0#16 r.timestamp) =
      some (withRecord f (newRecord r.timestamp)) := rfl
  rw [rebuildFrom, hopen]
  simp [rebuildFrom, rebuildStep, fieldToken, uopCode, modifyIO, modifyPosition, withRecord, modifyLast_concat,
    setWidth_zext64, setWidth_coordValue, newRecord]

/-- The variable entries' references denote their data, at offset `p` up (R83, R101). -/
theorem varTokens_rebuildStep {recNo : BitVec 8} {n p : Nat} {bs q : List Byte} {es : List VarEntry}
    (hm : Holds m p bs) (h : repeatRead rdVarEntry n bs = .ok (es, q)) :
    List.Forall₂ (fun e t => ∀ r : AvlRecord, rebuildStep m (withRecord f r) t =
      some (withRecord f { r with io := { r.io with g4 := r.io.g4 ++ [e] } })) es (varTokens recNo p es) := by
  induction n generalizing p bs es with
  | zero =>
    obtain ⟨rfl, -⟩ := repeatRead_zero.1 h
    exact .nil
  | succ n ih =>
    obtain ⟨e, es, r', rfl, he, hes⟩ := repeatRead_succ.1 h
    obtain ⟨r'', hhead, hdata⟩ := rdVarEntry_ok he
    refine .cons (fun r => ?_) (ih (hm.takes (rdVarEntry_takes he)) hes)
    have hderef := deref_refValue (hm.takes hhead) hdata
    simp [rebuildStep, fieldToken, uopCode, hderef, modifyIO_withRecord, refValue_length16]

/-- A record's tokens add the record (R100, items 2 and 3). -/
theorem rebuildFrom_recordTokens {recNo : BitVec 8} {p : Nat} {bs q : List Byte} {r : AvlRecord} (hm : Holds m p bs)
    (h : rdRecord bs = .ok (r, q)) : rebuildFrom m f (recordTokens recNo p r) = some (withRecord f r) := by
  obtain ⟨r', hhead, hvar⟩ := rdRecord_ok h
  have hentries := varTokens_rebuildStep m f (recNo := recNo) (hm.takes hhead) hvar
  unfold recordTokens
  rw [List.append_assoc, List.append_assoc, List.append_assoc, List.append_assoc,
    rebuildFrom_append (rebuildFrom_recordFields m f recNo r),
    rebuildFrom_append (rebuildFrom_groupTokens m f (add := fun o es => { o with g0 := o.g0 ++ es }) (by simp) (by simp)
      (by simp) (fun e r => by
        simp [rebuildStep, fieldToken, uopCode, modifyIO_withRecord, setWidth_zext64]) r.io.g0 _),
    rebuildFrom_append (rebuildFrom_groupTokens m f (add := fun o es => { o with g1 := o.g1 ++ es }) (by simp) (by simp)
      (by simp) (fun e r => by
        simp [rebuildStep, fieldToken, uopCode, modifyIO_withRecord, setWidth_zext64]) r.io.g1 _),
    rebuildFrom_append (rebuildFrom_groupTokens m f (add := fun o es => { o with g2 := o.g2 ++ es }) (by simp) (by simp)
      (by simp) (fun e r => by
        simp [rebuildStep, fieldToken, uopCode, modifyIO_withRecord, setWidth_zext64]) r.io.g2 _),
    rebuildFrom_append (rebuildFrom_groupTokens m f (add := fun o es => { o with g3 := o.g3 ++ es }) (by simp) (by simp)
      (by simp) (fun e r => by
        simp [rebuildStep, fieldToken, uopCode, modifyIO_withRecord, zext64]) r.io.g3 _),
    rebuildFrom, rebuildStep_countToken m _ (by simp)]
  exact rebuildFrom_entries m f (add := fun o es => { o with g4 := o.g4 ++ es }) (by simp) (by simp) hentries _

theorem rebuildFrom_recordsTokens {recNo n p : Nat} {bs q : List Byte} {rs : List AvlRecord} (hm : Holds m p bs)
    (h : repeatRead rdRecord n bs = .ok (rs, q)) :
    rebuildFrom m f (recordsTokens recNo p rs) = some { f with records := f.records ++ rs } := by
  induction n generalizing f recNo p bs rs with
  | zero =>
    obtain ⟨rfl, -⟩ := repeatRead_zero.1 h
    rw [List.append_nil]
    rfl
  | succ n ih =>
    obtain ⟨r, rs, r', rfl, hr, hrs⟩ := repeatRead_succ.1 h
    rw [recordsTokens, rebuildFrom_append (rebuildFrom_recordTokens m f hm hr),
      ih (withRecord f r) (hm.takes (rdRecord_takes hr)) hrs]
    simp [withRecord]

/-- The header's tokens fill in the identity, FLEN, CODEC and NREC (R100, item 1). -/
theorem rebuildFrom_headerTokens {d : List Byte} (hd : deref m (refValue 2#32 15#32) = some d) :
    rebuildFrom m emptyFrame (headerTokens f) =
      some { emptyFrame with imei := imeiOf d, flen := f.flen, codec := f.codec, nrec := f.nrec } := by
  simp [headerTokens, rebuildFrom, rebuildStep, fieldToken, uopCode, hd, setWidth_zext64]

/-- The footer's tokens fill in NREC2 and CRC; END_OK adds nothing (R100, item 4). -/
theorem rebuildFrom_footerTokens (g : Frame) :
    rebuildFrom m g (footerTokens f) = some { g with nrec2 := f.nrec2, crc := f.crc } := by
  simp [footerTokens, rebuildFrom, rebuildStep, fieldToken, endOkToken, uopCode, setWidth_zext64]

end Rebuild

/-- Settles O59: header, records and footer in turn, each reference read where the parser read its bytes. -/
theorem tokenFrameRebuildsTheFrame : Obligations.TokenFrameRebuildsTheFrame := by
  unfold Obligations.TokenFrameRebuildsTheFrame
  intro bs f p m hlen h hbytes
  obtain ⟨r, hframe, -⟩ := decodeFrame_ok h
  have hm : Holds m 0 bs := ⟨fun j hj => by rw [Nat.zero_add]; exact hbytes j hj, by omega⟩
  obtain ⟨b₁, d, b₂, b₃, b₄, hpre, hd, himei, hfields, hrecords, -⟩ := rdFrame_ok hframe
  have hidentity : deref m (refValue 2#32 15#32) = some d := deref_refValue (n := 15#16) (hm.takes hpre) hd
  have hm₃ : Holds m Config.hdrBytes b₃ := hm.takes ((hpre.trans (rd_takes hd)).trans hfields)
  rw [rebuild, frameTokens, List.append_assoc, rebuildFrom_append (rebuildFrom_headerTokens m f hidentity),
    rebuildFrom_append (rebuildFrom_recordsTokens m _ hm₃ hrecords), rebuildFrom_footerTokens, ← himei]
  rfl

end Sys2Proof.Machine


namespace Sys2Proof.Machine

/-! ### A consumer that pops every token as soon as it appears (log 4, log 6) -/

/-- `s` with a consumer that is still to pop `k` times and has received `pf` of the token frame that has not ended. -/
def withConsumer (k : Nat) (pf : List Token) (s : State) : State :=
  { s with agenda := List.replicate k .pop, partialFrame := pf }

/-- Tokens that end no token frame. -/
def Plain (ts : List Token) : Prop := ∀ t ∈ ts, t.tag ≠ tagEndOk ∧ t.tag ≠ tagEndErr

theorem plain_nil : Plain [] := nofun

theorem Plain.append {ts us : List Token} (hts : Plain ts) (hus : Plain us) : Plain (ts ++ us) := fun t ht =>
  (List.mem_append.1 ht).elim (hts t) (hus t)

/-- A row's own token carries the row's code, which is neither END tag (R94). -/
theorem plain_fieldToken {i : Instr} (hi : i ∈ readingRows) (recNo : BitVec 8) (ioId : BitVec 16) (value : DWord) :
    Plain [fieldToken i recNo ioId value] := by
  have hcode : ∀ j ∈ readingRows, uopCode j ≠ tagEndOk ∧ uopCode j ≠ tagEndErr := by decide +kernel
  intro t ht
  rw [List.mem_singleton.1 ht]
  exact hcode i hi

/-- With OUTQ empty the engine moves, whether or not a pop waits. -/
theorem step_withConsumer {s : State} (hq : s.outq = []) (k : Nat) (pf : List Token) :
    step (withConsumer k pf s) = engineTurn (withConsumer k pf s) := by
  cases k with
  | zero => exact step_of_agenda_nil rfl
  | succ k => exact (step_of_pop rfl).trans (popTurn_of_outq_nil _ hq)

theorem run_one (s : State) : Host.Core.run core 1 s = step s := by
  have hstep : core.step s = step s := rfl
  simp only [Host.Core.run, hstep]
  cases step s <;> rfl

theorem run_of_next {m n : Nat} {s t : State} (h : Host.Core.run core m s = .next t) :
    Host.Core.run core (m + n) s = Host.Core.run core n t := by
  rw [run_add, h]

/-- `s` with `k` pops to come and the tokens `q` in OUTQ. -/
def pending (k : Nat) (q : List Token) (s : State) : State := { s with agenda := List.replicate k .pop, outq := q }

/-- What the consumer does with a token depends neither on the moves to come nor on the rest of the queue. -/
theorem consume_pending (t : Token) (k : Nat) (q : List Token) (s : State) :
    consume t (pending k q s) = pending k q (consume t s) := by
  rcases consume_cases t s with ⟨hok, hc⟩ | ⟨herr, hc⟩ | ⟨hok, herr, hc⟩ <;> rw [hc]
  · exact consume_endOk hok _
  · exact consume_endErr herr _
  · exact consume_of_plain hok herr _

/-- As many pops as there are tokens: the consumer takes them one after the other. -/
theorem run_pops (ts : List Token) (k : Nat) (s : State) :
    Host.Core.run core ts.length (pending (ts.length + k) ts s) =
      .next (pending k [] (ts.foldl (fun c t => consume t c) s)) := by
  induction ts generalizing s with
  | nil =>
    rw [List.length_nil, Nat.zero_add]
    rfl
  | cons t ts ih =>
    have hpop : step (pending (ts.length + k + 1) (t :: ts) s) = .next (pending (ts.length + k) ts (consume t s)) := by
      rw [← consume_pending]
      exact (step_of_pop rfl).trans (popTurn_of_outq_cons _ rfl)
    rw [List.length_cons, Nat.add_right_comm, Nat.add_comm ts.length 1, run_of_next ((run_one _).trans hpop), ih,
      List.foldl_cons]

/-! ### From one state of a decode to a later one -/

/-- In `n` steps of its own, each with OUTQ empty, the engine comes from `s` to `t`, and the consumer receives the
tokens `ts` on the way. -/
structure Advances (n : Nat) (s : State) (ts : List Token) (t : State) : Prop where
  run : ∀ k pf, Host.Core.run core (n + ts.length) (withConsumer (ts.length + k) pf s) =
    .next (withConsumer k (pf ++ ts) t)
  plain : Plain ts
  host : hostSide t = hostSide s

theorem Advances.refl (s : State) : Advances 0 s [] s :=
  ⟨fun k pf => by simp [Host.Core.run], plain_nil, rfl⟩

theorem Advances.trans {m n : Nat} {s t u : State} {ts us : List Token} (h : Advances m s ts t)
    (h' : Advances n t us u) : Advances (m + n) s (ts ++ us) u := by
  refine ⟨fun k pf => ?_, h.plain.append h'.plain, h'.host.trans h.host⟩
  have hfirst := h.run (us.length + k) pf
  have hthen := h'.run k (pf ++ ts)
  rw [List.length_append, show m + n + (ts.length + us.length) = m + ts.length + (n + us.length) by omega,
    show ts.length + us.length + k = ts.length + (us.length + k) by omega, run_of_next hfirst, hthen,
    List.append_assoc]

/-- The decode has ended in ERROR with `e`, END_ERR is popped, and the consumer has no frame more than in `s`
(R213, R226). -/
structure Failed (e : ErrKind) (s t : State) : Prop where
  state : t.state = StateCode.error
  err : t.err = errCode e
  outq : t.outq = []
  agenda : t.agenda = []
  partialFrame : t.partialFrame = []
  frames : t.frames = s.frames

/-- From `s` the engine ends in ERROR with `e` after at most `b` steps of its own. -/
def Fails (b : Nat) (e : ErrKind) (s : State) : Prop :=
  ∃ n m, n ≤ b ∧ ∀ pf, ∃ t, Host.Core.run core (n + m) (withConsumer m pf s) = .next t ∧ Failed e s t

theorem Fails.mono {b b' : Nat} {e : ErrKind} {s : State} (h : Fails b e s) (hb : b ≤ b') : Fails b' e s := by
  obtain ⟨n, m, hn, hrun⟩ := h
  exact ⟨n, m, Nat.le_trans hn hb, hrun⟩

theorem Advances.fails {n b : Nat} {e : ErrKind} {s t : State} {ts : List Token} (h : Advances n s ts t)
    (hfails : Fails b e t) : Fails (n + b) e s := by
  obtain ⟨n', m, hn, hrun⟩ := hfails
  refine ⟨n + n', ts.length + m, Nat.add_le_add_left hn n, fun pf => ?_⟩
  obtain ⟨u, hu, hfailed⟩ := hrun (pf ++ ts)
  have hframes : t.frames = s.frames := congrArg (·.2.2.2.2.2.2.2) h.host
  refine ⟨u, ?_, { hfailed with frames := hfailed.frames.trans hframes }⟩
  rw [show n + n' + (ts.length + m) = n + ts.length + (n' + m) by omega, run_of_next (h.run m pf), hu]

/-- One engine step that emits `ts` into an empty OUTQ, and the pops of them. -/
theorem run_exec {i : Instr} {s t : State} {ts : List Token} {k : Nat} {pf : List Token}
    (hd : decodeUop (uop s) = .ok i) (hq : s.outq = [])
    (hx : exec i (withConsumer (ts.length + k) pf s) = .next (emit ts (withConsumer (ts.length + k) pf t)))
    (hqt : t.outq = []) : Host.Core.run core (1 + ts.length) (withConsumer (ts.length + k) pf s) =
      .next (pending k [] (ts.foldl (fun c t => consume t c) (withConsumer k pf t))) := by
  have hemit : emit ts (withConsumer (ts.length + k) pf t) = pending (ts.length + k) ts (withConsumer k pf t) := by
    simp [emit, pending, withConsumer, hqt]
  have hturn : step (withConsumer (ts.length + k) pf s) = .next (pending (ts.length + k) ts (withConsumer k pf t)) := by
    rw [step_withConsumer hq, engineTurn_of_decode (s := withConsumer (ts.length + k) pf s) hd, hx, hemit]
  rw [run_of_next ((run_one _).trans hturn), run_pops]

theorem advances_of_exec {i : Instr} {s t : State} {ts : List Token} (hd : decodeUop (uop s) = .ok i)
    (hq : s.outq = []) (hx : ∀ k pf, exec i (withConsumer k pf s) = .next (emit ts (withConsumer k pf t)))
    (hqt : t.outq = []) (plain : Plain ts) (host : hostSide t = hostSide s) : Advances 1 s ts t := by
  refine ⟨fun k pf => ?_, plain, host⟩
  rw [run_exec hd hq (hx _ pf) hqt, consume_plain ts _ plain]
  simp [pending, withConsumer, ← hqt]

/-- One engine step that raises an error, and the pop of END_ERR. -/
theorem fails_of_exec {i : Instr} {s : State} {e : ErrKind} (hd : decodeUop (uop s) = .ok i) (hq : s.outq = [])
    (hx : ∀ k pf, exec i (withConsumer k pf s) = raiseError i e (withConsumer k pf s)) : Fails 1 e s := by
  refine ⟨1, 1, Nat.le_refl 1, fun pf => ?_⟩
  have hroom : hasRoom 1 (withConsumer 1 pf s) = true := hasRoom_of_empty hq (by decide)
  have hentry : exec i (withConsumer 1 pf s) = .next (emit [endErrToken s.recDone s.pos (uopCode i) (errCode e)]
      (withConsumer 1 pf (goto StateCode.error { s with err := errCode e, errUop := uopCode i, errPos := s.pos }))) :=
    (hx 1 pf).trans (raiseError_of_room hroom e)
  refine ⟨_, run_exec (ts := [_]) (k := 0) hd hq hentry hq, ?_⟩
  rw [List.foldl_cons, List.foldl_nil, consume_endErr rfl]
  exact ⟨rfl, rfl, rfl, rfl, rfl, rfl⟩

end Sys2Proof.Machine


namespace Sys2Proof.Machine

/-! ### The engine at a cursor of the reference decode -/

/-- The engine stands where `bs` are the bytes left to read, with nothing in OUTQ. -/
structure Cursor (s : State) (bs : List Byte) : Prop where
  outq : s.outq = []
  left : s.pos.toNat + bs.length = s.len.toNat
  holds : Holds s.buf s.pos.toNat bs

theorem readWidth_withConsumer (i : Instr) (k : Nat) (pf : List Token) (s : State) :
    readWidth i (withConsumer k pf s) = readWidth i s := by
  cases i <;> rfl

section Cursor
variable {s t : State} {bs r : List Byte} {n : Nat}

theorem Cursor.advanced (hc : Cursor s bs) (ht : Takes n bs r) : Cursor (advance n s) r := by
  have hlength := ht.length
  have hlen := s.len.isLt
  have hleft := hc.left
  have hpos : (advance n s).pos.toNat = s.pos.toNat + n := by
    rw [advance_pos, BitVec.toNat_ofNat]
    exact Nat.mod_eq_of_lt (by omega)
  refine ⟨hc.outq, ?_, ?_⟩
  · rw [hpos, advance_len]
    omega
  · rw [hpos]
    exact hc.holds.takes ht

/-- The cursor is made of what no row's own rule writes. -/
theorem Cursor.congr (hc : Cursor s bs) (h : outerRegs t = outerRegs s) : Cursor t bs := by
  have hhost : hostSide t = hostSide s := congrArg (·.1) h
  have hlen : t.len = s.len := congrArg (·.1) hhost
  have hbuf : t.buf = s.buf := congrArg (·.2.2.1) hhost
  have houtq : t.outq = s.outq := congrArg (·.2.1) h
  have hpos : t.pos = s.pos := congrArg (·.2.2.1) h
  exact ⟨houtq.trans hc.outq, by rw [hpos, hlen]; exact hc.left, by rw [hbuf, hpos]; exact hc.holds⟩

/-- POS moves by the bytes taken between two cursors. -/
theorem Cursor.pos_eq (hc : Cursor s bs) (hc' : Cursor t r) (host : hostSide t = hostSide s) (ht : Takes n bs r) :
    t.pos.toNat = s.pos.toNat + n := by
  have hlen : t.len = s.len := congrArg (·.1) host
  have hleft := hc.left
  have hleft' := hc'.left
  have hlength := ht.length
  rw [hlen] at hleft'
  omega

/-- Where rd(n) succeeds the row that reads `n` bytes is ready, whatever the consumer is to do. -/
theorem Cursor.ready {i : Instr} {d : List Byte} (hc : Cursor s bs) (hn : readWidth i s = n)
    (h : rd n bs = .ok (d, r)) (k : Nat) (pf : List Token) : Ready i (withConsumer k pf s) d := by
  have hwidth := (readWidth_withConsumer i k pf s).trans hn
  have hleft := hc.left
  have hlength := (rd_takes h).length
  refine ⟨?_, hasRoom_of_empty hc.outq (successTokens_le_two i), ?_⟩
  · rw [hwidth]
    show s.pos.toNat + n ≤ s.len.toNat
    omega
  · rw [hwidth]
    exact hc.holds.readBytes h

/-- Where rd(n) fails the row that reads `n` bytes raises TruncatedFrame. -/
theorem Cursor.fails {i : Instr} (hc : Cursor s bs) (hi : i ∈ readingRows) (hd : decodeUop (uop s) = .ok i)
    (hn : readWidth i s = n) (h : bs.length < n) : Fails 1 .truncatedFrame s := by
  refine fails_of_exec hd hc.outq fun k pf => exec_truncated hi ?_
  have hwidth := (readWidth_withConsumer i k pf s).trans hn
  have hleft := hc.left
  rw [hwidth]
  show s.len.toNat < s.pos.toNat + n
  omega

end Cursor

/-- Row `i` is selected in `s`, reads `n` bytes, and from them commits the tokens `toks` and the registers `next` of
the state with POS advanced, whatever the consumer is to do. -/
structure Row (i : Instr) (n : Nat) (toks : List Byte → List Token) (next : List Byte → State → State)
    (s : State) : Prop where
  reading : i ∈ readingRows
  selected : decodeUop (uop s) = .ok i
  width : readWidth i s = n
  exec_eq : ∀ k pf, exec i (withConsumer k pf s) =
    extract i (fun d t => .commit (toks d) (next d t)) (withConsumer k pf s)
  next_withConsumer : ∀ d t k pf, next d (withConsumer k pf t) = withConsumer k pf (next d t)
  outer : ∀ d t, outerRegs (next d t) = outerRegs t
  plain : ∀ d, Plain (toks d)

section Row
variable {i : Instr} {n : Nat} {toks : List Byte → List Token} {next : List Byte → State → State} {s : State}
  {bs d r : List Byte}

theorem Row.cursor (h : Row i n toks next s) (hc : Cursor s bs) (hrd : rd n bs = .ok (d, r)) :
    Cursor (next d (advance n s)) r :=
  (hc.advanced (rd_takes hrd)).congr (h.outer d _)

theorem Row.advances (h : Row i n toks next s) (hc : Cursor s bs) (hrd : rd n bs = .ok (d, r)) :
    Advances 1 s (toks d) (next d (advance n s)) := by
  refine advances_of_exec h.selected hc.outq (fun k pf => ?_) (h.cursor hc hrd).outq (h.plain d)
    (congrArg (·.1) (h.outer d (advance n s)))
  rw [h.exec_eq, extract_ready _ (hc.ready h.width hrd k pf), finish_commit, readWidth_withConsumer, h.width,
    ← h.next_withConsumer]
  rfl

end Row

/-! ### A piece of DECODE and the engine's steps for it -/

/-- From `s`, where `bs` are left, the engine does what the piece `p` does. Where `p` gives `a`, it comes to a state `t`
at `p`'s new cursor, having emitted tokens `ts`, with `Q a ts t`; where `p` fails, it ends in ERROR with the same error.
It takes no more steps of its own than bytes, but for `c` that are owed from bytes read before, and one to fail. -/
def Sim {α : Type} (c : Nat) (p : Parser α) (bs : List Byte) (s : State) (Q : α → List Token → State → Prop) : Prop :=
  (∀ a r, p bs = .ok (a, r) →
    ∃ n ts t, n + r.length ≤ bs.length + c ∧ Advances n s ts t ∧ Cursor t r ∧ Q a ts t) ∧
  (∀ e, p bs = .error e → Fails (bs.length + c + 1) e s)

section Sim
variable {α β : Type} {c : Nat} {bs : List Byte} {s : State}

theorem Sim.mono {p : Parser α} {P Q : α → List Token → State → Prop} (h : Sim c p bs s P)
    (hPQ : ∀ a r ts t, p bs = .ok (a, r) → P a ts t → Q a ts t) : Sim c p bs s Q := by
  refine ⟨fun a r hok => ?_, h.2⟩
  obtain ⟨n, ts, t, hn, hadv, hc, hP⟩ := h.1 a r hok
  exact ⟨n, ts, t, hn, hadv, hc, hPQ a r ts t hok hP⟩

theorem Sim.pure {a : α} {Q : α → List Token → State → Prop} (hc : Cursor s bs) (hQ : Q a [] s) :
    Sim c (pure a) bs s Q := by
  refine ⟨fun b r hok => ?_, fun e herr => absurd herr pure_error⟩
  obtain ⟨rfl, rfl⟩ := pure_ok.1 hok
  exact ⟨0, [], s, by omega, .refl s, hc, hQ⟩

/-- Two pieces in a row. -/
theorem Sim.bind {p : Parser α} {f : α → Parser β} {P : α → List Token → State → Prop}
    {Q : β → List Token → State → Prop} (hp : Sim 0 p bs s P)
    (hf : ∀ a r ts t, p bs = .ok (a, r) → Cursor t r → hostSide t = hostSide s → P a ts t →
      Sim c (f a) r t (fun b us u => Q b (ts ++ us) u)) : Sim c (p >>= f) bs s Q := by
  refine ⟨fun b q hok => ?_, fun e herr => ?_⟩
  · obtain ⟨a, r, ha, hb⟩ := bind_ok.1 hok
    obtain ⟨n, ts, t, hn, hadv, hc, hP⟩ := hp.1 a r ha
    obtain ⟨n', us, u, hn', hadv', hc', hQ⟩ := (hf a r ts t ha hc hadv.host hP).1 b q hb
    exact ⟨n + n', ts ++ us, u, by omega, hadv.trans hadv', hc', hQ⟩
  · rcases bind_error.1 herr with hfirst | ⟨a, r, ha, hsecond⟩
    · exact (hp.2 e hfirst).mono (by omega)
    · obtain ⟨n, ts, t, hn, hadv, hc, hP⟩ := hp.1 a r ha
      exact (hadv.fails ((hf a r ts t ha hc hadv.host hP).2 e hsecond)).mono (by omega)

/-- A row, and what comes after it: the row's one step is owed from its bytes or from those before. -/
theorem Cursor.bindRow {i : Instr} {n : Nat} {toks : List Byte → List Token} {next : List Byte → State → State}
    {f : List Byte → Parser β} {Q : β → List Token → State → Prop} (hc : Cursor s bs) (hrow : Row i n toks next s)
    (c' : Nat) (hcost : c' + 1 ≤ n + c)
    (hf : ∀ d r, rd n bs = .ok (d, r) → Cursor (next d (advance n s)) r →
      Sim c' (f d) r (next d (advance n s)) (fun b us u => Q b (toks d ++ us) u)) : Sim c (rd n >>= f) bs s Q := by
  refine ⟨fun b q hok => ?_, fun e herr => ?_⟩
  · obtain ⟨d, r, hd, hb⟩ := bind_ok.1 hok
    have hlength := (rd_takes hd).length
    obtain ⟨n', us, u, hn', hadv', hc', hQ⟩ := (hf d r hd (hrow.cursor hc hd)).1 b q hb
    exact ⟨1 + n', toks d ++ us, u, by omega, (hrow.advances hc hd).trans hadv', hc', hQ⟩
  · rcases bind_error.1 herr with hfirst | ⟨d, r, hd, hsecond⟩
    · obtain ⟨hshort, rfl⟩ := rd_error.1 hfirst
      exact (hc.fails hrow.reading hrow.selected hrow.width hshort).mono (by omega)
    · have hlength := (rd_takes hd).length
      exact ((hrow.advances hc hd).fails ((hf d r hd (hrow.cursor hc hd)).2 e hsecond)).mono (by omega)

/-- A row that uses its bytes as one field of `w` bits. -/
def FieldRow (i : Instr) (w : Nat) (toks : BitVec w → List Token) (next : BitVec w → State → State)
    (s : State) : Prop :=
  Row i (w / 8) (fun d => toks (field w d)) (fun d => next (field w d)) s

theorem Cursor.bindField {i : Instr} {w : Nat} {toks : BitVec w → List Token} {next : BitVec w → State → State}
    {f : BitVec w → Parser β} {Q : β → List Token → State → Prop} (hc : Cursor s bs) (hrow : FieldRow i w toks next s)
    (c' : Nat) (hcost : c' + 1 ≤ w / 8 + c)
    (hf : ∀ v r, rdField w bs = .ok (v, r) → Cursor (next v (advance (w / 8) s)) r →
      Sim c' (f v) r (next v (advance (w / 8) s)) (fun b us u => Q b (toks v ++ us) u)) :
    Sim c (rdField w >>= f) bs s Q := by
  have hread : rdField w >>= f = rd (w / 8) >>= fun d => f (field w d) := by
    simp only [rdField, bind_assoc, pure_bind]
  rw [hread]
  refine hc.bindRow hrow c' hcost fun d r hd hc' => hf (field w d) r ?_ hc'
  exact rdField_ok.2 ⟨(rd_ok.1 hd).1, by rw [← (rd_ok.1 hd).2.1], (rd_ok.1 hd).2.2⟩

end Sim

end Sys2Proof.Machine


namespace Sys2Proof.Machine

/-! ### The rows of a record against DECODE (R140 to R179) -/

/-- A row is selected by its STATE and, where it reads CLS, its class (R90, R93). -/
theorem selected_of_state {i : Instr} (hi : i ∈ readingRows) {s : State} (hs : s.state = stateOf i)
    (hcls : uopMask i = 0xFF#8 → s.cls = (uopCode i).extractLsb' 0 3) : decodeUop (uop s) = .ok i := by
  have key : ∀ j ∈ readingRows, ∀ w : BitVec 3, (uopMask j = 0xFF#8 → w = (uopCode j).extractLsb' 0 3) →
      decodeUop (stateOf j ++ w) = .ok j := by decide +kernel
  rw [uop, hs]
  exact key i hi s.cls hcls

theorem endGroup_withConsumer (c : BitVec 3) (sk k : Nat) (pf : List Token) (s : State) :
    endGroup c sk (withConsumer k pf s) = withConsumer k pf (endGroup c sk s) := by
  unfold endGroup
  split <;> rfl

theorem endEntry_withConsumer (c : BitVec 3) (k : Nat) (pf : List Token) (s : State) :
    endEntry c (withConsumer k pf s) = withConsumer k pf (endEntry c s) := by
  unfold endEntry
  rw [apply_ite (withConsumer k pf)]
  congr 1
  exact endGroup_withConsumer c s.sumk.toNat k pf { s with idx := BitVec.ofNat 16 (s.idx.toNat + 1) }

/-- A row that does not read CLS is selected by STATE alone (R90, R93). -/
theorem unclassed_row {i : Instr} {n : Nat} {s : State} {toks : List Byte → List Token}
    {next : List Byte → State → State} (hi : i ∈ readingRows) (hmask : uopMask i = 0xF8#8) (hs : s.state = stateOf i)
    (hw : readWidth i s = n)
    (hx : ∀ k pf, exec i (withConsumer k pf s) =
      extract i (fun d t => .commit (toks d) (next d t)) (withConsumer k pf s))
    (hnext : ∀ d t k pf, next d (withConsumer k pf t) = withConsumer k pf (next d t))
    (houter : ∀ d t, outerRegs (next d t) = outerRegs t) (hplain : ∀ d, Plain (toks d)) : Row i n toks next s :=
  ⟨hi, selected_of_state hi hs fun hfull => absurd (hmask.symm.trans hfull) (by decide), hw, hx, hnext, houter, hplain⟩

/-- REC_TS to REC_SPD, and IO_EVID. -/
theorem recordField_row (i : Instr) {w : Nat} {s : State} (pack : BitVec w → DWord) (next : BitVec 5)
    (hs : s.state = stateOf i) (hi : i ∈ readingRows := by decide) (hmask : uopMask i = 0xF8#8 := by rfl)
    (hw : readWidth i s = w / 8 := by rfl)
    (hx : ∀ t, exec i t = recordField i (fun d => pack (field w d)) next t := by exact fun _ => rfl) :
    FieldRow i w (fun v => [fieldToken i s.recDone 0#16 (pack v)]) (fun _ t => goto next t) s :=
  unclassed_row hi hmask hs hw (fun _ _ => hx _) (fun _ _ _ _ => rfl) (fun _ _ => rfl) fun _ =>
    plain_fieldToken hi _ _ _

/-- The registers after TOTAL is read. -/
def totalRead (v : BitVec 16) (s : State) : State := { s with total := v, sumk := 0#19 }

/-- The registers after an entry's id is read. -/
def idRead (v : BitVec 16) (s : State) : State := { s with id := v }

/-- The registers after a variable entry's length is read. -/
def lengthRead (v : BitVec 16) (s : State) : State := { s with n := v }

theorem ioTotal_row {s : State} (hs : s.state = StateCode.ioTotal) :
    FieldRow .ioTotal 16 (fun v => [fieldToken .ioTotal s.recDone 0#16 (zext64 v)])
      (fun v t => gotoClass StateCode.grpCnt 0#3 (totalRead v t)) s :=
  unclassed_row (by decide) rfl hs rfl (fun _ _ => rfl) (fun _ _ _ _ => rfl) (fun _ _ => rfl)
    fun _ => plain_fieldToken (by decide) _ _ _

/-- Row `i` is the row of STATE `code` for class `c` and reads `n` bytes. -/
structure ClassRow (i : Instr) (code : BitVec 5) (c : BitVec 3) (n : Nat) : Prop where
  reading : i ∈ readingRows
  selects : SelectsClass i c
  state : stateOf i = code
  width : ∀ s, readWidth i s = n

theorem ClassRow.selected {i : Instr} {code : BitVec 5} {c : BitVec 3} {n : Nat} (h : ClassRow i code c n) {s : State}
    (hs : s.state = code) (hc : s.cls = c) : decodeUop (uop s) = .ok i :=
  selected_of_state h.reading (hs.trans h.state.symm) fun _ => hc.trans h.selects.cls.symm

/-- A sub-group's registers after its count `v` is read. -/
def countRead (sumk : BitVec 19) (v : BitVec 16) (s : State) : State :=
  { s with k := v, idx := 0#16, sumk := BitVec.ofNat 19 (sumk.toNat + v.toNat) }

/-- Where GRP_CNT of class `c` leads with the count `v` read: past the group, or to its first entry (R163). -/
def afterCount (c : BitVec 3) (sumk : BitVec 19) (v : BitVec 16) (s : State) : State :=
  if v = 0#16 then endGroup c (sumk.toNat + v.toNat) (countRead sumk v s)
  else gotoClass StateCode.entId c (countRead sumk v s)

theorem afterCount_withConsumer (c : BitVec 3) (sumk : BitVec 19) (v : BitVec 16) (k : Nat) (pf : List Token)
    (s : State) : afterCount c sumk v (withConsumer k pf s) = withConsumer k pf (afterCount c sumk v s) := by
  unfold afterCount
  split
  · exact endGroup_withConsumer c _ k pf (countRead sumk v s)
  · rfl

theorem outerRegs_afterCount (c : BitVec 3) (sumk : BitVec 19) (v : BitVec 16) (s : State) :
    outerRegs (afterCount c sumk v s) = outerRegs s := by
  unfold afterCount
  split
  · exact outerRegs_endGroup ..
  · rfl

/-- GRP_CNT of class `c`. -/
theorem groupCount_row {i : Instr} {c : BitVec 3} (h : ClassRow i StateCode.grpCnt c 2)
    (hx : ∀ t, exec i t = groupCount i c t) {s : State} (hs : s.state = StateCode.grpCnt) (hc : s.cls = c) :
    FieldRow i 16 (fun v => [fieldToken i s.recDone 0#16 (zext64 v)]) (fun v t => afterCount c s.sumk v t) s where
  reading := h.reading
  selected := h.selected hs hc
  width := h.width s
  exec_eq _ _ := hx _
  next_withConsumer _ _ _ _ := afterCount_withConsumer ..
  outer _ _ := outerRegs_afterCount ..
  plain _ := plain_fieldToken h.reading _ _ _

/-- ENT_ID of a fixed class. -/
theorem entryId_row {i : Instr} {c : BitVec 3} (h : ClassRow i StateCode.entId c 2)
    (hx : ∀ t, exec i t = entryId i c t) {s : State} (hs : s.state = StateCode.entId) (hc : s.cls = c) :
    FieldRow i 16 (fun _ => []) (fun v t => gotoClass StateCode.entVal c (idRead v t)) s where
  reading := h.reading
  selected := h.selected hs hc
  width := h.width s
  exec_eq _ _ := hx _
  next_withConsumer _ _ _ _ := rfl
  outer _ _ := rfl
  plain _ := plain_nil

/-- ENT_VAL of a fixed class. -/
theorem entryValue_row {i : Instr} {c : BitVec 3} {w : Nat} (h : ClassRow i StateCode.entVal c (w / 8))
    (hx : ∀ t, exec i t = entryValue i c (fun d => zext64 (field w d)) t) {s : State}
    (hs : s.state = StateCode.entVal) (hc : s.cls = c) :
    FieldRow i w (fun v => [fieldToken i s.recDone s.id (zext64 v)]) (fun _ t => endEntry c t) s where
  reading := h.reading
  selected := h.selected hs hc
  width := h.width s
  exec_eq _ _ := hx _
  next_withConsumer _ _ _ _ := endEntry_withConsumer ..
  outer _ _ := outerRegs_endEntry ..
  plain _ := plain_fieldToken h.reading _ _ _

theorem entIdX_row {s : State} (hs : s.state = StateCode.entId) (hc : s.cls = 4#3) :
    FieldRow .entIdX 16 (fun _ => []) (fun v t => goto StateCode.varLen (idRead v t)) s where
  reading := by decide
  selected := selected_of_state (by decide) hs fun _ => hc
  width := rfl
  exec_eq _ _ := rfl
  next_withConsumer _ _ _ _ := rfl
  outer _ _ := rfl
  plain _ := plain_nil

theorem varLen_row {s : State} (hs : s.state = StateCode.varLen) (hc : s.cls = 4#3) :
    FieldRow .varLen 16 (fun _ => []) (fun v t => goto StateCode.varData (lengthRead v t)) s where
  reading := by decide
  selected := selected_of_state (by decide) hs fun _ => hc
  width := rfl
  exec_eq _ _ := rfl
  next_withConsumer _ _ _ _ := rfl
  outer _ _ := rfl
  plain _ := plain_nil

theorem varData_row {s : State} {n : BitVec 16} (hs : s.state = StateCode.varData) (hc : s.cls = 4#3) (hn : s.n = n) :
    Row .varData n.toNat (fun _ => [fieldToken .varData s.recDone s.id (refValue s.pos (n.setWidth 32))])
      (fun _ t => endEntry 4#3 t) s where
  reading := by decide
  selected := selected_of_state (by decide) hs fun _ => hc
  width := congrArg BitVec.toNat hn
  exec_eq _ _ := hn ▸ rfl
  next_withConsumer _ _ _ _ := endEntry_withConsumer ..
  outer _ _ := outerRegs_endEntry ..
  plain _ := plain_fieldToken (by decide) _ _ _

/-! #### The entries of a sub-group -/

/-- What the entries of a sub-group leave as it is. -/
def groupRegs (s : State) := (s.sumk, s.recDone, s.nrec, s.total, s.cmm)

/-- What one entry leaves as it is until it ends. -/
def entryRegs (s : State) := (s.k, s.idx, groupRegs s)

/-- The tokens of entries that follow each other on the wire from offset `p` up. -/
def entriesTokens {α : Type} (tok : Nat → α → Token) (size : α → Nat) : Nat → List α → List Token
  | _, [] => []
  | p, e :: es => tok p e :: entriesTokens tok size (p + size e) es

theorem entriesTokens_eq_map {α : Type} (tok : α → Token) (size : α → Nat) (p : Nat) (es : List α) :
    entriesTokens (fun _ => tok) size p es = es.map tok := by
  induction es generalizing p with
  | nil => rfl
  | cons e es ih => exact congrArg (tok e :: ·) (ih _)

/-- The token of a variable entry that stands at offset `p`. -/
def varToken (recNo : BitVec 8) (p : Nat) (e : VarEntry) : Token :=
  fieldToken .varData recNo e.ioId (refValue (BitVec.ofNat 32 (p + 4)) (e.length.setWidth 32))

theorem entriesTokens_eq_varTokens (recNo : BitVec 8) (p : Nat) (es : List VarEntry) :
    entriesTokens (varToken recNo) varEntrySize p es = varTokens recNo p es := by
  induction es generalizing p with
  | nil => rfl
  | cons e es ih => exact congrArg (varToken recNo p e :: ·) (ih _)

/-- The engine does for one entry of class `c` what `p` does: it emits the entry's token and ends the entry (R160). -/
def EntrySim {α : Type} (c : BitVec 3) (p : Parser α) (tok : BitVec 8 → Nat → α → Token) : Prop :=
  ∀ s bs, Cursor s bs → s.state = StateCode.entId → s.cls = c →
    Sim 0 p bs s fun e ts t => ts = [tok s.recDone s.pos.toNat e] ∧ ∃ u, t = endEntry c u ∧ entryRegs u = entryRegs s

/-- The three rows of a fixed class `c` with values of `w` bits (R91, R93). -/
structure FixedClass (cnt id val : Instr) (c : BitVec 3) (w : Nat) : Prop where
  fixed : c.toNat < 4
  bytes : 1 ≤ w / 8
  cntRow : ClassRow cnt StateCode.grpCnt c 2
  idRow : ClassRow id StateCode.entId c 2
  valRow : ClassRow val StateCode.entVal c (w / 8)
  exec_cnt : ∀ s, exec cnt s = groupCount cnt c s
  exec_id : ∀ s, exec id s = entryId id c s
  exec_val : ∀ s, exec val s = entryValue val c (fun d => zext64 (field w d)) s

/-- A fixed class: ENT_ID, then ENT_VAL. -/
theorem FixedClass.entrySim {cnt id val : Instr} {c : BitVec 3} {w : Nat} (h : FixedClass cnt id val c w) :
    EntrySim c (rdFixedEntry w) fun recNo _ e => fieldToken val recNo e.ioId (zext64 e.value) := by
  intro s bs hc hs hcls
  refine hc.bindField (entryId_row h.idRow h.exec_id hs hcls) 0 (by decide) fun v r _ hc => ?_
  refine hc.bindField (entryValue_row h.valRow h.exec_val rfl rfl) 0 (by have := h.bytes; omega) fun x q _ hc => ?_
  exact Sim.pure hc ⟨rfl, _, rfl, rfl⟩

/-- The variable class: ENT_ID.X, VAR_LEN, VAR_DATA. VAR_DATA of no bytes is paid for by VAR_LEN's two. -/
theorem varEntry_sim : EntrySim 4#3 rdVarEntry varToken := by
  intro s bs hc hs hcls
  refine hc.bindField (entIdX_row hs hcls) 0 (by decide) fun v r hid hc₁ => ?_
  refine hc₁.bindField (varLen_row rfl hcls) 1 (by decide) fun n q hn hc₂ => ?_
  refine hc₂.bindRow (varData_row rfl hcls rfl) 0 (by omega) fun d q' _ hc₃ => ?_
  refine Sim.pure hc₃ ⟨?_, _, rfl, rfl⟩
  have hstart := congrArg (BitVec.ofNat 32) (hc.pos_eq hc₂ rfl ((rdField_takes hid).trans (rdField_takes hn)))
  rw [BitVec.ofNat_toNat, BitVec.setWidth_eq] at hstart
  exact congrArg (fun p => [fieldToken .varData s.recDone v (refValue p (n.setWidth 32))]) hstart

/-- The engine between two entries of class `c`, with `n` entries still to come: at ENT_ID, or past the group. -/
def betweenEntries (c : BitVec 3) (n : Nat) (s : State) : State :=
  if n = 0 then endGroup c s.sumk.toNat s else gotoClass StateCode.entId c s

/-- END_ENTRY with `n` entries to come after the one that ends. -/
theorem endEntry_eq_betweenEntries {c : BitVec 3} {n : Nat} {s : State} (h : s.idx.toNat + (n + 1) = s.k.toNat) :
    endEntry c s = betweenEntries c n { s with idx := BitVec.ofNat 16 (s.idx.toNat + 1) } := by
  unfold betweenEntries
  rcases endEntry_cases c s with ⟨hlast, heq⟩ | ⟨hmore, heq⟩ <;> rw [heq]
  · rw [if_pos (by omega)]
  · rw [if_neg (by omega)]

/-- GRP_CNT leads to where as many entries are to come as it counts, while SUMK does not wrap (R35). -/
theorem afterCount_eq_betweenEntries {c : BitVec 3} {sumk : BitVec 19} {v : BitVec 16} {s : State}
    (h : (countRead sumk v s).sumk.toNat = sumk.toNat + v.toNat) :
    afterCount c sumk v s = betweenEntries c v.toNat (countRead sumk v s) := by
  unfold afterCount betweenEntries
  rw [h]
  by_cases hzero : v = 0#16
  · rw [if_pos hzero, if_pos (by rw [hzero]; rfl)]
  · have hsome : v.toNat ≠ 0 := fun hn => hzero (BitVec.eq_of_toNat_eq hn)
    rw [if_neg hzero, if_neg hsome]

/-- All entries of a sub-group, from its count on. -/
theorem entries_sim {α : Type} {c : BitVec 3} {p : Parser α} {tok : BitVec 8 → Nat → α → Token} {size : α → Nat}
    (hentry : EntrySim c p tok) (htakes : ∀ {bs a r}, p bs = .ok (a, r) → Takes (size a) bs r) {n : Nat}
    {bs : List Byte} {s : State} (hc : Cursor (betweenEntries c n s) bs) (hn : s.idx.toNat + n = s.k.toNat) :
    Sim 0 (repeatRead p n) bs (betweenEntries c n s) fun es ts t =>
      ts = entriesTokens (tok s.recDone) size s.pos.toNat es ∧
      ∃ u, t = endGroup c u.sumk.toNat u ∧ groupRegs u = groupRegs s := by
  induction n generalizing bs s with
  | zero => exact Sim.pure hc ⟨rfl, s, rfl, rfl⟩
  | succ n ih =>
    have hmore : betweenEntries c (n + 1) s = gotoClass StateCode.entId c s := rfl
    rw [hmore] at hc ⊢
    refine Sim.bind (hentry _ _ hc rfl rfl) fun e r ts t he hc₁ host h => ?_
    obtain ⟨rfl, u, rfl, hregs⟩ := h
    obtain ⟨hk, hregs⟩ := Prod.mk.inj hregs
    obtain ⟨hidx, hgroup⟩ := Prod.mk.inj hregs
    have hpos : u.pos.toNat = s.pos.toNat + size e := (endEntry_pos c u) ▸ hc.pos_eq hc₁ host (htakes he)
    have hrecDone : u.recDone = s.recDone := congrArg (·.2.1) hgroup
    have hcount : u.idx.toNat + (n + 1) = u.k.toNat := by
      rw [hk, hidx]
      exact hn
    have hidx' : (BitVec.ofNat 16 (u.idx.toNat + 1)).toNat = u.idx.toNat + 1 := by
      rw [BitVec.toNat_ofNat]
      exact Nat.mod_eq_of_lt (by have := u.k.isLt; omega)
    rw [endEntry_eq_betweenEntries hcount] at hc₁ ⊢
    refine Sim.bind (ih hc₁ ?_) fun es q us v _ hc₂ _ h => Sim.pure hc₂ ?_
    · show (BitVec.ofNat 16 (u.idx.toNat + 1)).toNat + n = u.k.toNat
      omega
    · obtain ⟨rfl, w, rfl, hregs⟩ := h
      refine ⟨?_, w, rfl, hregs.trans hgroup⟩
      simp [entriesTokens, hpos, hrecDone]

/-- What the sub-groups of a record leave as it is until the record ends. -/
def recordRegs (s : State) := (s.recDone, s.nrec, s.total, s.cmm)

/-- The engine stands before the count of class `c`, with `sum` entries in the classes below (R27, R35). -/
structure AtGroup (c : BitVec 3) (sum : Nat) (s : State) : Prop where
  state : s.state = StateCode.grpCnt
  cls : s.cls = c
  sumk : s.sumk.toNat = sum
  bound : sum ≤ c.toNat * 65535

/-- A sub-group: its count, then its entries (R163, R179). -/
theorem group_sim {α : Type} {i : Instr} {c : BitVec 3} {p : Parser α} {tok : BitVec 8 → Nat → α → Token}
    {size : α → Nat} (hrow : ClassRow i StateCode.grpCnt c 2) (hx : ∀ t, exec i t = groupCount i c t)
    (hclass : c.toNat ≤ 4) (hentry : EntrySim c p tok) (htakes : ∀ {bs a r}, p bs = .ok (a, r) → Takes (size a) bs r)
    {bs : List Byte} {s : State} {sum : Nat} (hc : Cursor s bs) (hs : AtGroup c sum s) :
    Sim 0 (rdGroup p) bs s fun es ts t =>
      ts = countToken i s.recDone es.length :: entriesTokens (tok s.recDone) size (s.pos.toNat + 2) es ∧
      es.length ≤ 65535 ∧
      ∃ u, t = endGroup c (sum + es.length) u ∧ u.sumk.toNat = sum + es.length ∧ recordRegs u = recordRegs s := by
  refine hc.bindField (groupCount_row hrow hx hs.state hs.cls) 0 (by decide) fun v r hv hc₁ => ?_
  have hsumk := hs.sumk
  have hbound : sum ≤ 4 * 65535 := Nat.le_trans hs.bound (Nat.mul_le_mul_right 65535 hclass)
  have hv' : v.toNat < 65536 := v.isLt
  have hsum : (countRead s.sumk v (advance 2 s)).sumk.toNat = s.sumk.toNat + v.toNat :=
    (BitVec.toNat_ofNat ..).trans (Nat.mod_eq_of_lt (by omega))
  have hpos : (advance 2 s).pos.toNat = s.pos.toNat + 2 :=
    hc.pos_eq (hc.advanced (rdField_takes hv)) rfl (rdField_takes hv)
  have hnext := afterCount_eq_betweenEntries (c := c) hsum
  rw [hnext] at hc₁ ⊢
  refine (entries_sim hentry htakes hc₁ (Nat.zero_add _)).mono fun es q ts t hes h => ?_
  obtain ⟨rfl, u, rfl, hregs⟩ := h
  obtain ⟨husumk, hregs⟩ := Prod.mk.inj hregs
  have hlength := repeatRead_length hes
  have hcount : BitVec.ofNat 64 es.length = zext64 v := by
    rw [hlength]
    exact BitVec.eq_of_toNat_eq (by simp [zext64])
  have husum : u.sumk.toNat = sum + es.length := by rw [husumk, hsum, hsumk, hlength]
  refine ⟨?_, by omega, u, by rw [husum], husum, hregs⟩
  rw [countToken, hcount, ← hpos]
  rfl

/-- A fixed-class sub-group leads to the count of the next class (R160). -/
theorem FixedClass.groupSim {cnt id val : Instr} {c : BitVec 3} {w : Nat} (h : FixedClass cnt id val c w)
    {bs : List Byte} {s : State} {sum : Nat} (hc : Cursor s bs) (hs : AtGroup c sum s) :
    Sim 0 (rdGroup (rdFixedEntry w)) bs s fun es ts t =>
      ts = groupTokens cnt val s.recDone es ∧ AtGroup (c + 1#3) (sum + es.length) t ∧ recordRegs t = recordRegs s := by
  have hfixed := h.fixed
  refine (group_sim h.cntRow h.exec_cnt (Nat.le_of_lt hfixed) h.entrySim rdFixedEntry_takes hc hs).mono
    fun es r ts t _ hgroup => ?_
  obtain ⟨rfl, hlength, u, rfl, hu, hregs⟩ := hgroup
  have hnext : endGroup c (sum + es.length) u = gotoClass StateCode.grpCnt (c + 1#3) u := if_pos hfixed
  have hclass : (c + 1#3).toNat = c.toNat + 1 := by
    rw [BitVec.toNat_add]
    exact Nat.mod_eq_of_lt (show c.toNat + 1 < 8 by omega)
  rw [hnext, entriesTokens_eq_map]
  refine ⟨rfl, ⟨rfl, rfl, hu, ?_⟩, hregs⟩
  have hbound := hs.bound
  rw [hclass]
  omega

/-- The variable sub-group ends the record (R160, R167). -/
theorem varGroup_sim {bs : List Byte} {s : State} {sum : Nat} (hc : Cursor s bs) (hs : AtGroup 4#3 sum s) :
    Sim 0 (rdGroup rdVarEntry) bs s fun es ts t =>
      ts = countToken .grpCntX s.recDone es.length :: varTokens s.recDone (s.pos.toNat + 2) es ∧
      ∃ u, t = endRecord (sum + es.length) u ∧ recordRegs u = recordRegs s := by
  refine (group_sim (i := .grpCntX) ⟨by decide, ⟨rfl, rfl⟩, rfl, fun _ => rfl⟩ (fun _ => rfl) (by decide) varEntry_sim
    rdVarEntry_takes hc hs).mono fun es r ts t _ hgroup => ?_
  obtain ⟨rfl, -, u, rfl, -, hregs⟩ := hgroup
  rw [entriesTokens_eq_varTokens]
  exact ⟨rfl, u, rfl, hregs⟩

end Sys2Proof.Machine


namespace Sys2Proof.Machine

/-! #### The IO element, the record, the records -/

theorem fixedClass1 : FixedClass .grpCnt1 .entId1 .entVal1 0#3 8 :=
  ⟨by decide, by decide, ⟨by decide, ⟨rfl, rfl⟩, rfl, fun _ => rfl⟩, ⟨by decide, ⟨rfl, rfl⟩, rfl, fun _ => rfl⟩,
    ⟨by decide, ⟨rfl, rfl⟩, rfl, fun _ => rfl⟩, fun _ => rfl, fun _ => rfl, fun _ => rfl⟩

theorem fixedClass2 : FixedClass .grpCnt2 .entId2 .entVal2 1#3 16 :=
  ⟨by decide, by decide, ⟨by decide, ⟨rfl, rfl⟩, rfl, fun _ => rfl⟩, ⟨by decide, ⟨rfl, rfl⟩, rfl, fun _ => rfl⟩,
    ⟨by decide, ⟨rfl, rfl⟩, rfl, fun _ => rfl⟩, fun _ => rfl, fun _ => rfl, fun _ => rfl⟩

theorem fixedClass4 : FixedClass .grpCnt4 .entId4 .entVal4 2#3 32 :=
  ⟨by decide, by decide, ⟨by decide, ⟨rfl, rfl⟩, rfl, fun _ => rfl⟩, ⟨by decide, ⟨rfl, rfl⟩, rfl, fun _ => rfl⟩,
    ⟨by decide, ⟨rfl, rfl⟩, rfl, fun _ => rfl⟩, fun _ => rfl, fun _ => rfl, fun _ => rfl⟩

/-- A value of 64 bits needs no extension (R176). -/
theorem zext64_eq (v : DWord) : zext64 v = v := BitVec.setWidth_eq v

theorem fixedClass8 : FixedClass .grpCnt8 .entId8 .entVal8 3#3 64 :=
  ⟨by decide, by decide, ⟨by decide, ⟨rfl, rfl⟩, rfl, fun _ => rfl⟩, ⟨by decide, ⟨rfl, rfl⟩, rfl, fun _ => rfl⟩,
    ⟨by decide, ⟨rfl, rfl⟩, rfl, fun _ => rfl⟩, fun _ => rfl, fun _ => rfl, fun s => by simp only [zext64_eq]; rfl⟩

/-- The tokens of an IO element that stands at offset `p` (R100). -/
def ioTokens (recNo : BitVec 8) (p : Nat) (io : IOElement) : List Token :=
  [fieldToken .ioEvid recNo 0#16 (zext64 io.eventId), fieldToken .ioTotal recNo 0#16 (zext64 io.total)] ++
  (groupTokens .grpCnt1 .entVal1 recNo io.g0 ++ (groupTokens .grpCnt2 .entVal2 recNo io.g1 ++
  (groupTokens .grpCnt4 .entVal4 recNo io.g2 ++ (groupTokens .grpCnt8 .entVal8 recNo io.g3 ++
  (countToken .grpCntX recNo io.g4.length :: varTokens recNo
    (p + (14 + 3 * io.g0.length + 4 * io.g1.length + 6 * io.g2.length + 10 * io.g3.length)) io.g4)))))

theorem ioElement_sim {bs : List Byte} {s : State} (hc : Cursor s bs) (hs : s.state = StateCode.ioEvid) :
    Sim 0 rdIOElement bs s fun io ts t =>
      ts = ioTokens s.recDone s.pos.toNat io ∧
      ∃ u, t = endRecord (entryCount io) u ∧ recordRegs u = (s.recDone, s.nrec, io.total, s.cmm) := by
  refine hc.bindField (recordField_row .ioEvid zext64 StateCode.ioTotal hs) 0 (by decide) fun evid _ hr₁ hc₁ => ?_
  refine hc₁.bindField (ioTotal_row rfl) 0 (by decide) fun total _ hr₂ hc₂ => ?_
  refine Sim.bind (fixedClass1.groupSim (sum := 0) hc₂ ⟨rfl, rfl, rfl, Nat.zero_le _⟩) fun g0 _ _ s₃ hr₃ hc₃ host₃
    h₃ => ?_
  obtain ⟨rfl, hs₃, hregs₃⟩ := h₃
  refine Sim.bind (fixedClass2.groupSim hc₃ hs₃) fun g1 _ _ s₄ hr₄ hc₄ host₄ h₄ => ?_
  obtain ⟨rfl, hs₄, hregs₄⟩ := h₄
  refine Sim.bind (fixedClass4.groupSim hc₄ hs₄) fun g2 _ _ s₅ hr₅ hc₅ host₅ h₅ => ?_
  obtain ⟨rfl, hs₅, hregs₅⟩ := h₅
  refine Sim.bind (fixedClass8.groupSim hc₅ hs₅) fun g3 _ _ s₆ hr₆ hc₆ host₆ h₆ => ?_
  obtain ⟨rfl, hs₆, hregs₆⟩ := h₆
  refine Sim.bind (varGroup_sim hc₆ hs₆) fun g4 _ _ s₇ hr₇ hc₇ host₇ h₇ => Sim.pure hc₇ ?_
  obtain ⟨rfl, u, rfl, hregs⟩ := h₇
  have hpos := hc.pos_eq hc₆ (host₆.trans (host₅.trans (host₄.trans host₃)))
    ((rdField_takes hr₁).trans ((rdField_takes hr₂).trans ((rdFixedGroup_takes hr₃).trans
      ((rdFixedGroup_takes hr₄).trans ((rdFixedGroup_takes hr₅).trans (rdFixedGroup_takes hr₆))))))
  have hrec₃ : s₃.recDone = s.recDone := congrArg (·.1) hregs₃
  have hrec₄ : s₄.recDone = s.recDone := (congrArg (·.1) hregs₄).trans hrec₃
  have hrec₅ : s₅.recDone = s.recDone := (congrArg (·.1) hregs₅).trans hrec₄
  have hrec₆ : s₆.recDone = s.recDone := (congrArg (·.1) hregs₆).trans hrec₅
  refine ⟨?_, u, ?_, hregs.trans (hregs₆.trans (hregs₅.trans (hregs₄.trans hregs₃)))⟩
  · have hoffset : s₆.pos.toNat + 2 =
        s.pos.toNat + (14 + 3 * g0.length + 4 * g1.length + 6 * g2.length + 10 * g3.length) := by
      rw [hpos]
      omega
    rw [hrec₃, hrec₄, hrec₅, hrec₆, hoffset, List.append_nil]
    rfl
  · rw [Nat.zero_add]
    rfl

theorem recordTokens_eq (recNo : BitVec 8) (p : Nat) (r : AvlRecord) :
    recordTokens recNo p r =
      [fieldToken .recTs recNo 0#16 r.timestamp] ++ ([fieldToken .recPrio recNo 0#16 (zext64 r.priority)] ++
      ([fieldToken .recLon recNo 0#16 (coordValue r.position.lonRaw)] ++
      ([fieldToken .recLat recNo 0#16 (coordValue r.position.latRaw)] ++
      ([fieldToken .recAlt recNo 0#16 (zext64 r.position.altitude)] ++
      ([fieldToken .recAng recNo 0#16 (zext64 r.position.angle)] ++
      ([fieldToken .recSat recNo 0#16 (zext64 r.position.satellites)] ++
      ([fieldToken .recSpd recNo 0#16 (zext64 r.position.speed)] ++ ioTokens recNo (p + 24) r.io))))))) := by
  have hoffset : p + 24 + (14 + 3 * r.io.g0.length + 4 * r.io.g1.length + 6 * r.io.g2.length + 10 * r.io.g3.length) =
      p + varStart r := by
    unfold varStart
    omega
  simp [recordTokens, ioTokens, hoffset]

theorem record_sim {bs : List Byte} {s : State} (hc : Cursor s bs) (hs : s.state = StateCode.recTs) :
    Sim 0 rdRecord bs s fun r ts t =>
      ts = recordTokens s.recDone s.pos.toNat r ∧
      ∃ u, t = endRecord (entryCount r.io) u ∧ recordRegs u = (s.recDone, s.nrec, r.io.total, s.cmm) := by
  refine hc.bindField (recordField_row .recTs (fun v => v) StateCode.recPrio hs) 0 (by decide) fun ts _ hr₁ hc₁ => ?_
  refine hc₁.bindField (recordField_row .recPrio zext64 StateCode.recLon rfl) 0 (by decide) fun prio _ hr₂ hc₂ => ?_
  refine hc₂.bindField (recordField_row .recLon coordValue StateCode.recLat rfl) 0 (by decide) fun lon _ hr₃ hc₃ => ?_
  refine hc₃.bindField (recordField_row .recLat coordValue StateCode.recAlt rfl) 0 (by decide) fun lat _ hr₄ hc₄ => ?_
  refine hc₄.bindField (recordField_row .recAlt zext64 StateCode.recAng rfl) 0 (by decide) fun alt _ hr₅ hc₅ => ?_
  refine hc₅.bindField (recordField_row .recAng zext64 StateCode.recSat rfl) 0 (by decide) fun ang _ hr₆ hc₆ => ?_
  refine hc₆.bindField (recordField_row .recSat zext64 StateCode.recSpd rfl) 0 (by decide) fun sat _ hr₇ hc₇ => ?_
  refine hc₇.bindField (recordField_row .recSpd zext64 StateCode.ioEvid rfl) 0 (by decide) fun spd _ hr₈ hc₈ => ?_
  refine Sim.bind (ioElement_sim hc₈ rfl) fun io _ _ t _ hc₉ _ h => Sim.pure hc₉ ?_
  obtain ⟨rfl, u, rfl, hregs⟩ := h
  have hpos := hc.pos_eq hc₈ rfl ((((((((rdField_takes hr₁).trans (rdField_takes hr₂)).trans (rdField_takes hr₃)).trans
    (rdField_takes hr₄)).trans (rdField_takes hr₅)).trans (rdField_takes hr₆)).trans (rdField_takes hr₇)).trans
    (rdField_takes hr₈))
  refine ⟨?_, u, rfl, hregs⟩
  rw [recordTokens_eq, List.append_nil, hpos]
  rfl

/-- The records still to be read (R43, R160): at REC_TS while there is one, else at the footer. -/
theorem records_sim {n : Nat} {bs : List Byte} {s : State} (hc : Cursor s bs)
    (hs : s.state = if n = 0 then StateCode.ftrNrec2 else StateCode.recTs) (hn : s.recDone.toNat + n = s.nrec.toNat) :
    Sim 0 (repeatRead rdRecord n) bs s fun rs ts t =>
      ts = recordsTokens s.recDone.toNat s.pos.toNat rs ∧ t.state = StateCode.ftrNrec2 ∧ t.nrec = s.nrec ∧
      t.cmm = (s.cmm || rs.any fun r => entryCount r.io != r.io.total.toNat) := by
  induction n generalizing bs s with
  | zero => exact Sim.pure hc ⟨rfl, hs, rfl, (Bool.or_false _).symm⟩
  | succ n ih =>
    refine Sim.bind (record_sim hc hs) fun r q ts t hr hc₁ host h => ?_
    obtain ⟨rfl, u, rfl, hregs⟩ := h
    simp only [recordRegs, Prod.mk.injEq] at hregs
    obtain ⟨hrecDone, hnrec, htotal, hcmm⟩ := hregs
    have hpos := hc.pos_eq hc₁ host (rdRecord_takes hr)
    have hdone : (endRecord (entryCount r.io) u).recDone.toNat = s.recDone.toNat + 1 := by
      rw [endRecord_recDone, hrecDone, BitVec.toNat_ofNat]
      exact Nat.mod_eq_of_lt (by have := s.nrec.isLt; omega)
    refine Sim.bind (ih hc₁ ?state ?count) fun rs _ us t _ hc₂ _ h => Sim.pure hc₂ ?_
    case state =>
      rw [endRecord_state, hrecDone, hnrec]
      exact if_congr (by omega) rfl rfl
    case count =>
      rw [hdone, endRecord_nrec, hnrec]
      omega
    obtain ⟨rfl, hstate, hnrec', hcmm'⟩ := h
    refine ⟨?_, hstate, hnrec'.trans hnrec, ?_⟩
    · rw [hdone, hpos, recordsTokens, List.append_nil, BitVec.ofNat_toNat, BitVec.setWidth_eq]
    · rw [hcmm', endRecord_cmm, cmmAfter, htotal, hcmm, List.any_cons, Bool.or_assoc]

end Sys2Proof.Machine


namespace Sys2Proof.Machine

/-! ### The whole decode against DECODE (R85, R196) -/

/-- The registers after the identity is read. -/
def imeiRead (v : Vector Byte 15) (s : State) : State := { s with imei := v }

/-- The registers after FLEN is read. -/
def flenRead (v : Word) (s : State) : State := { s with flen := v }

/-- The registers after CODEC is read. -/
def codecRead (v : BitVec 8) (s : State) : State := { s with codec := v }

/-- The registers after NREC is read. -/
def nrecRead (v : BitVec 8) (s : State) : State := { s with nrec := v }

/-- The registers after NREC2 is read. -/
def nrec2Read (v : BitVec 8) (s : State) : State := { s with nrec2 := v }

/-- A header row that stores its bytes nowhere and emits nothing. -/
theorem silentRow (i : Instr) (n : Nat) (next : BitVec 5) {s : State} (hs : s.state = stateOf i)
    (hi : i ∈ readingRows := by decide) (hmask : uopMask i = 0xF8#8 := by rfl) (hw : readWidth i s = n := by rfl)
    (hx : ∀ t, exec i t = extract i (fun _ u => .commit [] (goto next u)) t := by exact fun _ => rfl) :
    Row i n (fun _ => []) (fun _ => goto next) s :=
  unclassed_row hi hmask hs hw (fun _ _ => hx _) (fun _ _ _ _ => rfl) (fun _ _ => rfl) fun _ => plain_nil

/-- A header or footer row that emits its field of `w` bits. -/
theorem emittedField_row (i : Instr) {w : Nat} {s : State} (recNo : BitVec 8) (regs : BitVec w → State → State)
    (hs : s.state = stateOf i) (hi : i ∈ readingRows := by decide) (hmask : uopMask i = 0xF8#8 := by rfl)
    (hw : readWidth i s = w / 8 := by rfl)
    (hx : ∀ k pf, exec i (withConsumer k pf s) =
      extract i (fun d t => .commit [fieldToken i recNo 0#16 (zext64 (field w d))] (regs (field w d) t))
        (withConsumer k pf s) := by exact fun _ _ => rfl)
    (hregs : ∀ v t k pf, regs v (withConsumer k pf t) = withConsumer k pf (regs v t) := by exact fun _ _ _ _ => rfl)
    (houter : ∀ v t, outerRegs (regs v t) = outerRegs t := by exact fun _ _ => rfl) :
    FieldRow i w (fun v => [fieldToken i recNo 0#16 (zext64 v)]) regs s :=
  unclassed_row hi hmask hs hw hx (fun _ => hregs _) (fun _ => houter _) fun _ => plain_fieldToken hi _ _ _

/-- HDR_IMEI: the identity goes to IMEI, or the decode ends for a bad byte (R123). -/
theorem imei_sim {bs : List Byte} {s : State} (hc : Cursor s bs) (hs : s.state = StateCode.hdrImei) :
    Sim 0 rdImei bs s fun v ts t =>
      ts = [fieldToken .hdrImei 0#8 0#16 (refValue 2#32 15#32)] ∧
      t = goto StateCode.hdrZero (imeiRead v (advance 15 s)) := by
  have hd : decodeUop (uop s) = .ok .hdrImei := selected_of_state (by decide) hs fun hfull => absurd hfull (by decide)
  refine ⟨fun v r hok => ?_, fun e herr => ?_⟩
  · obtain ⟨d, hrd, hascii, rfl⟩ := rdImei_ok hok
    have hlength := (rd_takes hrd).length
    refine ⟨1, _, _, by omega, ?_, ?_, rfl, rfl⟩
    · refine advances_of_exec hd hc.outq (fun k pf => ?_) hc.outq (plain_fieldToken (by decide) _ _ _) rfl
      show execHdrImei _ = _
      unfold execHdrImei
      rw [extract_ready _ (hc.ready (i := .hdrImei) rfl hrd k pf), if_pos hascii]
      rfl
    · exact (hc.advanced (rd_takes hrd)).congr rfl
  · rcases rdImei_error.1 herr with ⟨hshort, rfl⟩ | ⟨hlong, hbad, rfl⟩
    · exact (hc.fails (i := .hdrImei) (by decide) hd rfl hshort).mono (by omega)
    · have hrd : rd 15 bs = .ok (bs.take 15, bs.drop 15) := rd_ok.2 ⟨hlong, rfl, rfl⟩
      refine (fails_of_exec hd hc.outq fun k pf => ?_).mono (by omega)
      show execHdrImei _ = _
      unfold execHdrImei
      rw [extract_ready _ (hc.ready (i := .hdrImei) rfl hrd k pf), if_neg (by simp [hbad])]
      rfl

/-- DECODE but for the checksum. -/
def rdUpToCrc : Parser Frame := do
  let _ ← rd 2
  let imei ← rdImei
  let _ ← rd 4
  let flen ← rdField 32
  let codec ← rdField 8
  let nrec ← rdField 8
  let records ← repeatRead rdRecord nrec.toNat
  let nrec2 ← rdField 8
  return { imei := imei, flen := flen, codec := codec, nrec := nrec, records := records, nrec2 := nrec2, crc := 0#32 }

theorem rdFrame_eq : rdFrame = rdUpToCrc >>= fun f => rdField 32 >>= fun crc => pure { f with crc := crc } := by
  simp only [rdFrame, rdUpToCrc, bind_assoc, pure_bind]

/-- The tokens of a frame before those of FTR_CRC (R100). -/
def tokensUpToCrc (f : Frame) : List Token :=
  headerTokens f ++ recordsTokens 0 Config.hdrBytes f.records ++ [fieldToken .ftrNrec2 f.nrec 0#16 (zext64 f.nrec2)]

theorem rdImei_takes {bs r : List Byte} {v : Vector Byte 15} (h : rdImei bs = .ok (v, r)) : Takes 15 bs r := by
  obtain ⟨_, hrd, _⟩ := rdImei_ok h
  exact rd_takes hrd

theorem upToCrc_sim {bs : List Byte} {s : State} (hc : Cursor s bs) (hs : s.state = StateCode.hdrPre)
    (hpos : s.pos = 0#32) (hrec : s.recDone = 0#8) (hcmm : s.cmm = false) :
    Sim 0 rdUpToCrc bs s fun f ts t =>
      ts = tokensUpToCrc f ∧ t.state = StateCode.ftrCrc ∧ t.nrec = f.nrec ∧ t.cmm = frameCmm f := by
  refine hc.bindRow (silentRow .hdrPre 2 StateCode.hdrImei hs) 0 (by decide) fun _ _ hr₁ hc₁ => ?_
  refine Sim.bind (imei_sim hc₁ rfl) fun imei _ _ _ hr₂ hc₂ _ h => ?_
  obtain ⟨rfl, rfl⟩ := h
  refine hc₂.bindRow (silentRow .hdrZero 4 StateCode.hdrFlen rfl) 0 (by decide) fun _ _ hr₃ hc₃ => ?_
  refine hc₃.bindField (emittedField_row .hdrFlen 0#8 (fun v t => goto StateCode.hdrCodec (flenRead v t)) rfl) 0
    (by decide) fun flen _ hr₄ hc₄ => ?_
  refine hc₄.bindField (emittedField_row .hdrCodec 0#8 (fun v t => goto StateCode.hdrNrec (codecRead v t)) rfl) 0
    (by decide) fun codec _ hr₅ hc₅ => ?_
  refine hc₅.bindField (emittedField_row .hdrNrec 0#8 (fun v t =>
    goto (if v = 0#8 then StateCode.ftrNrec2 else StateCode.recTs) (nrecRead v t)) rfl) 0 (by decide)
    fun nrec _ hr₆ hc₆ => ?_
  have hpos₆ := hc.pos_eq hc₆ rfl ((((((rd_takes hr₁).trans (rdImei_takes hr₂)).trans (rd_takes hr₃)).trans
    (rdField_takes hr₄)).trans (rdField_takes hr₅)).trans (rdField_takes hr₆))
  have hstart := hpos₆.trans (congrArg (·.toNat + Config.hdrBytes) hpos)
  have hrecDone : s.recDone.toNat = 0 := congrArg BitVec.toNat hrec
  refine Sim.bind (records_sim hc₆ ?first ?count) fun records _ _ t _ hc₇ _ h => ?_
  case first =>
    have hzero : nrec = 0#8 ↔ nrec.toNat = 0 := BitVec.toNat_eq
    exact if_congr hzero rfl rfl
  case count => exact (congrArg (· + nrec.toNat) hrecDone).trans (Nat.zero_add _)
  obtain ⟨htokens, hstate, hnrec, hcmm'⟩ := h
  have hrecords := htokens.trans (congrArg₂ (recordsTokens · · records) hrecDone hstart)
  refine hc₇.bindField (emittedField_row .ftrNrec2 t.nrec (fun v t => goto StateCode.ftrCrc (nrec2Read v t)) hstate) 0
    (by decide) fun nrec2 _ hr₈ hc₈ => Sim.pure hc₈ ?_
  refine ⟨?_, rfl, hnrec, hcmm'.trans ?_⟩
  · have hcount : t.nrec = nrec := hnrec
    simp [hrecords, hcount, tokensUpToCrc, headerTokens]
  · exact (congrArg (· || _) hcmm).trans (Bool.false_or _)

end Sys2Proof.Machine


namespace Sys2Proof.Machine

/-! ### The end of a decode, LEN_CHK and the boot sequence (R191, R253) -/

/-- The decode has ended in DONE at `p`, all its tokens are popped, and the consumer has received `ts` as one more frame
than in `s` (R208, R212). -/
structure Completed (ts : List Token) (p : Nat) (s t : State) : Prop where
  state : t.state = StateCode.done
  pos : t.pos.toNat = p
  outq : t.outq = []
  agenda : t.agenda = []
  partialFrame : t.partialFrame = []
  frames : t.frames = s.frames ++ [ts]

/-- The tokens of FTR_CRC, which reads `crc` at the cursor: its own and END_OK (R191). -/
def crcTokens (crc : Word) (s : State) : List Token :=
  [fieldToken .ftrCrc s.nrec 0#16 (zext64 crc), endOkToken s.nrec s.cmm (BitVec.ofNat 32 (s.pos.toNat + 4))]

/-- The consumer takes FTR_CRC's tokens: they close the token frame. -/
theorem consume_crcTokens (crc : Word) (s t : State) : (crcTokens crc s).foldl (fun c u => consume u c) t =
    { t with frames := t.frames ++ [t.partialFrame ++ crcTokens crc s], partialFrame := [] } := by
  have hplain : (fieldToken .ftrCrc s.nrec 0#16 (zext64 crc)).tag ≠ tagEndOk ∧
      (fieldToken .ftrCrc s.nrec 0#16 (zext64 crc)).tag ≠ tagEndErr :=
    plain_fieldToken (i := .ftrCrc) (by decide) _ _ _ _ List.mem_cons_self
  rw [crcTokens, List.foldl_cons, List.foldl_cons, List.foldl_nil, consume_of_plain hplain.1 hplain.2,
    consume_endOk rfl]
  simp

/-- FTR_CRC and the two pops after it. -/
theorem crc_run {bs r : List Byte} {s : State} {crc : Word} (hc : Cursor s bs) (hs : s.state = StateCode.ftrCrc)
    (hcrc : rdField 32 bs = .ok (crc, r)) (pf : List Token) :
    ∃ t, Host.Core.run core 3 (withConsumer 2 pf s) = .next t ∧
      Completed (pf ++ crcTokens crc s) (s.pos.toNat + 4) s t := by
  have hd : decodeUop (uop s) = .ok .ftrCrc := selected_of_state (by decide) hs fun hfull => absurd hfull (by decide)
  obtain ⟨hlong, rfl, rfl⟩ := rdField_ok.1 hcrc
  have hrd : rd 4 bs = .ok (bs.take 4, bs.drop 4) := rd_ok.2 ⟨hlong, rfl, rfl⟩
  have hcommit : exec .ftrCrc (withConsumer 2 pf s) = .next (emit (crcTokens (field 32 (bs.take 4)) s)
      (withConsumer 2 pf (goto StateCode.done { advance 4 s with crc := field 32 (bs.take 4) }))) := by
    show execFtrCrc _ = _
    unfold execFtrCrc
    rw [extract_ready _ (hc.ready (i := .ftrCrc) rfl hrd 2 pf)]
    rfl
  refine ⟨_, run_exec (ts := crcTokens _ s) (k := 0) hd hc.outq hcommit hc.outq, ?_⟩
  have hpos := hc.pos_eq (hc.advanced (rd_takes hrd)) rfl (rd_takes hrd)
  rw [consume_crcTokens]
  exact ⟨rfl, hpos, rfl, rfl, rfl, rfl⟩

/-- A decode has just been started over `bs`. -/
structure AtStart (s : State) (bs : List Byte) : Prop where
  cursor : Cursor s bs
  state : s.state = StateCode.lenChk
  pos : s.pos = 0#32
  recDone : s.recDone = 0#8
  cmm : s.cmm = false

section AtStart
variable {s : State} {bs : List Byte}

theorem AtStart.len (h : AtStart s bs) : s.len.toNat = bs.length := by
  have hleft := h.cursor.left
  rw [h.pos] at hleft
  exact hleft.symm.trans (Nat.zero_add _)

theorem AtStart.selected (h : AtStart s bs) : decodeUop (uop s) = .ok .lenChk := by
  have key : ∀ w : BitVec 3, decodeUop (StateCode.lenChk ++ w) = .ok .lenChk := by decide +kernel
  rw [uop, h.state]
  exact key s.cls

/-- LEN_CHK with at least 20 bytes: on to the header (R120). -/
theorem AtStart.advances (h : AtStart s bs) (hlong : 20 ≤ bs.length) :
    Advances 1 s [] (goto StateCode.hdrPre s) := by
  refine advances_of_exec h.selected h.cursor.outq (fun k pf => ?_) h.cursor.outq plain_nil rfl
  have hroom : hasRoom 0 (withConsumer k pf s) = true := hasRoom_of_empty h.cursor.outq (Nat.zero_le _)
  have hlen : (withConsumer k pf s).len.toNat = bs.length := h.len
  rcases execLenChk_cases (withConsumer k pf s) with ⟨hshort, -⟩ | ⟨-, -, heq⟩ | ⟨-, hfull, -⟩
  · omega
  · refine heq.trans (congrArg _ ?_)
    simp [emit, withConsumer, goto]
  · exact absurd (hroom.symm.trans hfull) (by decide)

/-- LEN_CHK with fewer than 20 bytes (R120). -/
theorem AtStart.fails (h : AtStart s bs) (hshort : bs.length < 20) : Fails 1 .invalidLength s := by
  refine fails_of_exec h.selected h.cursor.outq fun k pf => ?_
  have hlen : (withConsumer k pf s).len.toNat = bs.length := h.len
  rcases execLenChk_cases (withConsumer k pf s) with ⟨-, heq⟩ | ⟨hlong, -⟩ | ⟨hlong, -⟩
  · exact heq
  · omega
  · omega

theorem AtStart.upToCrc (h : AtStart s bs) : Sim 0 rdUpToCrc bs (goto StateCode.hdrPre s) fun f ts t =>
    ts = tokensUpToCrc f ∧ t.state = StateCode.ftrCrc ∧ t.nrec = f.nrec ∧ t.cmm = frameCmm f :=
  upToCrc_sim (h.cursor.congr rfl) rfl h.pos h.recDone h.cmm

theorem frameTokens_eq (g : Frame) (crc : Word) : frameTokens { g with crc := crc } =
    tokensUpToCrc g ++ [fieldToken .ftrCrc g.nrec 0#16 (zext64 crc),
      endOkToken g.nrec (frameCmm g) (BitVec.ofNat 32 (frameSize g))] := by
  simp [frameTokens, tokensUpToCrc, footerTokens, headerTokens, frameCmm, frameSize]

/-- Where DECODE gives a Frame, the engine ends in DONE and the consumer has its tokens. -/
theorem AtStart.completes (h : AtStart s bs) {f : Frame} {p : Nat} (hok : decodeFrame bs = .ok (f, p)) :
    ∃ n t, n ≤ bs.length + 2 ∧
      Host.Core.run core (n + (frameTokens f).length) (withConsumer (frameTokens f).length [] s) = .next t ∧
      Completed (frameTokens f) p s t := by
  obtain ⟨hsize, hle, hmin, -⟩ := consumedBytesAreTheFrameSize bs f p hok
  obtain ⟨r, hframe, hp⟩ := decodeFrame_ok hok
  rw [rdFrame_eq] at hframe
  obtain ⟨g, q, hg, hrest⟩ := bind_ok.1 hframe
  obtain ⟨crc, r', hcrc, hpure⟩ := bind_ok.1 hrest
  obtain ⟨rfl, rfl⟩ := pure_ok.1 hpure
  obtain ⟨n, _, t, hn, hadv, hc, rfl, hstate, hnrec, hcmm⟩ := h.upToCrc.1 g q hg
  have hstart := (h.advances (by omega)).trans hadv
  obtain ⟨u, hrun, hcompleted⟩ := crc_run hc hstate hcrc (tokensUpToCrc g)
  have hlen : t.len.toNat = bs.length := (congrArg (·.1.toNat) hadv.host).trans h.len
  have hframes : t.frames = s.frames := congrArg (·.2.2.2.2.2.2.2) hadv.host
  have hpos : t.pos.toNat + 4 = p := by
    have hleft := hc.left
    have hq := (rdField_takes hcrc).length
    omega
  have htokens : tokensUpToCrc g ++ crcTokens crc t = frameTokens { g with crc := crc } := by
    rw [frameTokens_eq, crcTokens, hpos, hsize, hnrec, hcmm]
    rfl
  have hlength : (frameTokens { g with crc := crc }).length = (tokensUpToCrc g).length + 2 := by
    rw [frameTokens_eq, List.length_append]
    rfl
  rw [htokens, hpos] at hcompleted
  refine ⟨1 + n + 1, u, by omega, ?_, { hcompleted with frames := by rw [hcompleted.frames, hframes] }⟩
  rw [hlength, show 1 + n + 1 + ((tokensUpToCrc g).length + 2) = 1 + n + (tokensUpToCrc g).length + 3 by omega]
  exact (run_of_next (hstart.run 2 [])).trans hrun

/-- Where DECODE gives an error, the engine ends in ERROR with it. -/
theorem AtStart.fails_of_error (h : AtStart s bs) {e : ErrKind} (herr : decodeFrame bs = .error e) :
    Fails (bs.length + 2) e s := by
  by_cases hshort : bs.length < 20
  · obtain rfl := Except.error.inj ((decodeFrame_of_short hshort).symm.trans herr)
    exact (h.fails hshort).mono (by omega)
  · have hlenChk := h.advances (by omega)
    have hframe := (decodeFrame_error_iff (by omega)).1 herr
    rw [rdFrame_eq] at hframe
    rcases bind_error.1 hframe with hfirst | ⟨g, q, hg, hrest⟩
    · exact (hlenChk.fails (h.upToCrc.2 e hfirst)).mono (by omega)
    · obtain ⟨n, _, t, hn, hadv, hc, -, hstate, -⟩ := h.upToCrc.1 g q hg
      have hd : decodeUop (uop t) = .ok .ftrCrc :=
        selected_of_state (by decide) hstate fun hfull => absurd hfull (by decide)
      rcases bind_error.1 hrest with hcrc | ⟨_, _, -, hpure⟩
      · obtain ⟨hfew, rfl⟩ := rdField_error.1 hcrc
        exact ((hlenChk.trans hadv).fails (hc.fails (by decide) hd rfl hfew)).mono (by omega)
      · exact absurd hpure pure_error

end AtStart

/-- `s` with other moves to come. -/
def withMoves (ms : List Move) (s : State) : State := { s with agenda := ms }

/-- BUF and the written offsets after the host has written `bs` from offset 0 up. -/
def loadBytes (bs : List Byte) (s : State) : State :=
  { s with buf := writeBytes s.buf 0 bs, written := markOffsets s.written 0 bs.length }

/-- BUF, the written offsets and LEN after the host has written `bs` and its length. -/
def loadFrame (bs : List Byte) (s : State) : State :=
  { loadBytes bs s with len := BitVec.ofNat 32 bs.length }

/-- The state in which the boot sequence leaves the block (R202, R253). -/
def booted (bs : List Byte) (v : Word) (s : State) : State :=
  clearDecode StateCode.lenChk (setIrqEn v (loadFrame bs s))

theorem writeCsr_len (v : Word) (s : State) : writeCsr Csr.len allLanes v s = .next (writeLen v s) := by
  have haligned : csrAligned Csr.len allLanes = true := by decide
  have hctrl : Csr.len ≠ Csr.ctrl := by decide
  unfold writeCsr
  rw [if_pos haligned, if_neg hctrl, if_pos rfl]

theorem writeLen_of_rest {s : State} (h : busy s = false) (v : Word) : writeLen v s = { s with len := v } := by
  unfold writeLen
  rw [h, if_neg Bool.false_ne_true]

section Boot
variable {s : State} {bs : List Byte} {v : Word}

theorem loadFrame_len (hlen : bs.length ≤ Config.maxLen) : (loadFrame bs s).len.toNat = bs.length := by
  show (BitVec.ofNat 32 bs.length).toNat = _
  rw [BitVec.toNat_ofNat]
  exact Nat.mod_eq_of_lt (Nat.lt_of_le_of_lt hlen maxLen_lt)

/-- START over a frame the host has loaded is accepted (R253). -/
theorem exec_start_loadFrame (hb : busy s = false) (hlen : bs.length ≤ Config.maxLen) (ms : List Move) :
    exec (.start v) (withMoves ms (loadFrame bs s)) = .next (withMoves ms (booted bs v s)) := by
  have hloaded : (withMoves ms (loadFrame bs s)).len.toNat = bs.length := loadFrame_len (s := s) hlen
  rcases execStart_cases v (withMoves ms (loadFrame bs s)) with
    ⟨hbusy, -⟩ | ⟨-, hbeyond, -⟩ | ⟨-, -, -, heq⟩ | ⟨-, -, hunwritten, -⟩
  · exact absurd (hb.symm.trans hbusy) Bool.false_ne_true
  · omega
  · exact heq
  · refine absurd (fun a ha => mem_markOffsets.2 (.inl ⟨Nat.zero_le _, ?_⟩)) hunwritten
    omega

theorem step_bufWrite_frame (hb : busy s = false) (hlen : bs.length ≤ Config.maxLen) (ms : List Move) :
    step (withMoves (.bufWrite 0 bs :: ms) s) = .next (withMoves ms (loadBytes bs s)) :=
  (step_of_bufWrite rfl).trans (writeBuf_of_fits (s := withMoves ms s) hb (by omega))

theorem step_lenWrite_frame (hb : busy s = false) (ms : List Move) :
    step (withMoves (.csrWrite Csr.len allLanes (BitVec.ofNat 32 bs.length) :: ms) (loadBytes bs s)) =
      .next (withMoves ms (loadFrame bs s)) :=
  (step_of_csrWrite rfl).trans ((writeCsr_len _ _).trans
    (congrArg _ (writeLen_of_rest (s := withMoves ms (loadBytes bs s)) hb _)))

theorem step_start_frame (hb : busy s = false) (hv : v.getLsbD 0 = true) (hlen : bs.length ≤ Config.maxLen)
    (ms : List Move) : step (withMoves (.csrWrite Csr.ctrl allLanes v :: ms) (loadFrame bs s)) =
      .next (withMoves ms (booted bs v s)) :=
  (step_of_ctrlWrite (decodeCtrl_eq_ok_iff.2 (.inl ⟨rfl, hv⟩)) rfl).trans (exec_start_loadFrame hb hlen ms)

/-- The boot sequence, in three moves of the host (R253). -/
theorem run_bootMoves (hb : busy s = false) (hpf : s.partialFrame = []) (hv : v.getLsbD 0 = true)
    (hlen : bs.length ≤ Config.maxLen) (m : Nat) :
    Host.Core.run core 3 (withMoves (bootMoves bs v ++ List.replicate m .pop) s) =
      .next (withConsumer m [] (booted bs v s)) := by
  rw [withConsumer, ← hpf]
  have hbuf := (run_one _).trans (step_bufWrite_frame hb hlen ((bootMoves bs v).tail ++ List.replicate m .pop))
  have hlenWrite := (run_one _).trans
    (step_lenWrite_frame (bs := bs) hb (.csrWrite Csr.ctrl allLanes v :: List.replicate m .pop))
  have hstart := (run_one _).trans (step_start_frame hb hv hlen (List.replicate m .pop))
  exact (run_of_next (n := 2) hbuf).trans ((run_of_next (n := 1) hlenWrite).trans hstart)

/-- The boot sequence starts the decode of the bytes it has written. -/
theorem atStart_booted (hq : s.outq = []) (hlen : bs.length ≤ Config.maxLen) : AtStart (booted bs v s) bs where
  cursor := by
    refine ⟨hq, (Nat.zero_add _).trans (loadFrame_len (s := s) hlen).symm, fun j hj => ?_, ?_⟩
    · show readByte (writeBytes s.buf 0 bs) (0 + j) = _
      rw [readByte_writeBytes, if_pos (by omega), Nat.zero_add, Nat.sub_zero]
    · exact (Nat.zero_add _).trans_lt (Nat.lt_of_le_of_lt hlen maxLen_lt)
  state := rfl
  pos := rfl
  recDone := rfl
  cmm := rfl

end Boot

/-- Settles O60: the boot sequence starts the decode of the bytes written; each piece of DECODE is simulated by the
engine's steps for it, a step for a byte at most, and the consumer pops what they emit. -/
theorem engineComputesTheReferenceDecode : Obligations.EngineComputesTheReferenceDecode := by
  unfold Obligations.EngineComputesTheReferenceDecode
  intro s bs v hb hq hpf hv hlen
  have hstart : AtStart (booted bs v s) bs := atStart_booted hq hlen
  refine ⟨fun f p hok => ?_, fun e herr => ?_⟩
  · obtain ⟨n, t, hn, hrun, hcompleted⟩ := hstart.completes hok
    refine ⟨3 + (n + (frameTokens f).length), t, by omega, ?_, hcompleted.state, hcompleted.pos, hcompleted.outq,
      hcompleted.agenda, hcompleted.partialFrame, hcompleted.frames⟩
    exact (run_of_next (run_bootMoves hb hpf hv hlen _)).trans hrun
  · obtain ⟨n, m, hn, hfails⟩ := hstart.fails_of_error herr
    obtain ⟨t, hrun, hfailed⟩ := hfails []
    refine ⟨3 + (n + m), m, t, by omega, ?_, hfailed.state, hfailed.err, hfailed.outq, hfailed.agenda,
      hfailed.partialFrame, hfailed.frames⟩
    exact (run_of_next (run_bootMoves hb hpf hv hlen _)).trans hrun

end Sys2Proof.Machine


/-!
PROOFS. The header family of 40_header.md: what IDLE, LEN_CHK and the HDR_* steps do, test and leave unchanged (O17, O18,
O20, O22, O43); of all micro-operations, which raises which error (O19); and which moves can change STATE (O54).
-/
namespace Sys2Proof.Machine

/-! ### What the header steps do -/

/-- Settles O20: this is what the three rows of the resting states say. -/
theorem restingStatesChangeNothing : Obligations.RestingStatesChangeNothing := by
  unfold Obligations.RestingStatesChangeNothing
  exact fun _ => ⟨rfl, rfl, rfl⟩

/-- Settles O17: of what LEN_CHK can do, the length and the room leave one outcome on each side of 20. -/
theorem lenChkTestsTheMinimumLength : Obligations.LenChkTestsTheMinimumLength := by
  unfold Obligations.LenChkTestsTheMinimumLength
  refine ⟨fun s hshort hroom => ?_, fun s hlong hroom => ?_⟩
  · rcases execLenChk_cases s with ⟨-, hx⟩ | ⟨hlong, -⟩ | ⟨hlong, -⟩
    · rw [hx, raiseError_of_room hroom]
      rfl
    · omega
    · omega
  · rcases execLenChk_cases s with ⟨hshort, -⟩ | ⟨-, -, hx⟩ | ⟨-, hfull, -⟩
    · omega
    · exact hx
    · exact absurd (hroom.symm.trans hfull) (by decide)

/-- A ready step: POS moves by the read width, in 32 bits, and the row's rule says the rest. -/
theorem extract_of_ready {i : Instr} {s : State} {bs : List Byte} (body : List Byte → State → Effect)
    (ready : Ready i s bs) :
    extract i body s = finish i s (body bs { s with pos := s.pos + BitVec.ofNat 32 (readWidth i s) }) := by
  rw [extract_ready body ready, advance_eq]

theorem emit_nil (s : State) : emit [] s = s := by
  simp [emit]

/-- Settles O18: the bytes are read and are not ASCII; the one free place HDR_IMEI asks for takes END_ERR. -/
theorem hdrImeiRaisesInvalidEncoding : Obligations.HdrImeiRaisesInvalidEncoding := by
  unfold Obligations.HdrImeiRaisesInvalidEncoding
  intro s bs ready hhigh
  have hbad : ¬allAscii bs = true := by
    rw [allAscii_iff]
    obtain ⟨b, hb, hge⟩ := hhigh
    exact fun hlow => absurd (hlow b hb) (Nat.not_lt.2 hge)
  show execHdrImei s = _
  rw [execHdrImei, extract_of_ready _ ready, if_neg hbad, finish_raise, raiseError_of_room ready.room]
  rfl

/-- Settles O22: each step is ready and commits; its big-endian field is the bytes side by side (R64). -/
theorem headerFieldsAreRead : Obligations.HeaderFieldsAreRead := by
  unfold Obligations.HeaderFieldsAreRead
  refine ⟨fun s bs ready => ?pre, fun s bs ready => ?zero, fun s b0 b1 b2 b3 ready => ?flen,
    fun s b ready => ?codec, fun s b ready => ?nrec⟩
  case pre =>
    show execHdrPre s = _
    rw [execHdrPre, extract_of_ready _ ready, finish_commit, emit_nil]
    rfl
  case zero =>
    show execHdrZero s = _
    rw [execHdrZero, extract_of_ready _ ready, finish_commit, emit_nil]
    rfl
  case flen =>
    show execHdrFlen s = _
    rw [execHdrFlen, extract_of_ready _ ready, field_u32]
    rfl
  case codec =>
    show execHdrCodec s = _
    rw [execHdrCodec, extract_of_ready _ ready, field_u8]
    rfl
  case nrec =>
    show execHdrNrec s = _
    rw [execHdrNrec, extract_of_ready _ ready, field_u8]
    rfl

/-! ### What the header steps leave unchanged -/

/-- The error registers change only on the way into ERROR (R226). -/
theorem exec_row_errRegs {i : Instr} (hi : i ∈ uopRows) {s s' : State} (h : exec i s = .next s')
    (hstate : s'.state ≠ StateCode.error) : errRegs s' = errRegs s := by
  rcases exec_row_next hi h with rfl | ⟨e, -, rfl⟩ | ⟨-, -, rfl⟩ | ⟨bs, ts, t, -, -, hcommit, rfl⟩
  · rfl
  · exact absurd rfl hstate
  · rfl
  · exact hcommit.errRegs_eq

/-- A step that reads nothing leaves POS. -/
theorem exec_row_pos_of_width_zero {i : Instr} (hi : i ∈ uopRows) {s s' : State} (h : exec i s = .next s')
    (hwidth : readWidth i s = 0) : s'.pos = s.pos := by
  rcases exec_row_pos hi h with hpos | ⟨hpos, -⟩
  · exact hpos
  · exact BitVec.eq_of_toNat_eq (by rw [hpos, hwidth, Nat.add_zero])

/-- Raising an error holds or enters it (R96, R226). -/
theorem raiseError_next {i : Instr} {e : ErrKind} {s s' : State} (h : raiseError i e s = .next s') :
    s' = s ∨ s' = errorEntry (uopCode i) e s := by
  rcases raiseError_cases i e s with ⟨-, he⟩ | ⟨-, he⟩ <;> rw [he] at h <;> cases h
  · exact .inr rfl
  · exact .inl rfl

/-- What header step `i` leaves as it was on every path, beside the host's side: the result registers of the other
header steps, and all registers of the records and the footer (R130). -/
structure HeaderFrame (i : Instr) (s t : State) : Prop where
  imei : i ≠ .hdrImei → t.imei = s.imei
  flen : i ≠ .hdrFlen → t.flen = s.flen
  codec : i ≠ .hdrCodec → t.codec = s.codec
  nrec : i ≠ .hdrNrec → t.nrec = s.nrec
  rest : (footerRegs t, ioRegs t, t.recDone, t.cmm, t.cls) = (footerRegs s, ioRegs s, s.recDone, s.cmm, s.cls)

theorem HeaderFrame.refl (i : Instr) (s : State) : HeaderFrame i s s :=
  ⟨fun _ => rfl, fun _ => rfl, fun _ => rfl, fun _ => rfl, rfl⟩

/-- A reading step keeps the frame where its rule does: a hold, an error entry and the tokens touch no such register. -/
theorem extract_headerFrame {i : Instr} {s s' : State} {body : List Byte → State → Effect}
    (h : extract i body s = .next s')
    (hbody : ∀ bs ts t, body bs (advance (readWidth i s) s) = .commit ts t → HeaderFrame i s t) :
    HeaderFrame i s s' := by
  rcases extract_next_cases h with rfl | ⟨e, -, rfl⟩ | ⟨bs, ts, t, -, hcommit, rfl⟩
  · exact .refl ..
  · exact { HeaderFrame.refl i s with }
  · exact { hbody bs ts t hcommit with }

/-- A rule that raises no error of its own. -/
theorem extract_headerFrame_of_commit {i : Instr} {s s' : State} {toks : List Byte → State → List Token}
    {regs : List Byte → State → State} (h : extract i (fun bs t => .commit (toks bs t) (regs bs t)) s = .next s')
    (hregs : ∀ bs, HeaderFrame i s (regs bs (advance (readWidth i s) s))) : HeaderFrame i s s' := by
  refine extract_headerFrame h fun bs ts t hcommit => ?_
  cases hcommit
  exact hregs bs

/-- IDLE, LEN_CHK and the HDR_* steps (R130). -/
def headerRows : List Instr := [.idle, .lenChk, .hdrPre, .hdrImei, .hdrZero, .hdrFlen, .hdrCodec, .hdrNrec]

theorem exec_headerFrame {i : Instr} (hi : i ∈ headerRows) {s s' : State} (h : exec i s = .next s') :
    HeaderFrame i s s' := by
  cases i
  case idle =>
    cases h
    exact .refl ..
  case lenChk =>
    rcases execLenChk_cases s with ⟨-, hx⟩ | ⟨-, -, hx⟩ | ⟨-, -, hx⟩ <;> rw [hx] at h
    · rcases raiseError_next h with rfl | rfl
      · exact .refl ..
      · exact { HeaderFrame.refl .lenChk s with }
    · cases h
      exact { HeaderFrame.refl .lenChk s with }
    · cases h
      exact .refl ..
  case hdrImei =>
    refine extract_headerFrame (show execHdrImei s = _ from h) fun bs ts t hcommit => ?_
    split at hcommit <;> cases hcommit
    exact { HeaderFrame.refl .hdrImei s with imei := fun hne => absurd rfl hne }
  case hdrPre =>
    exact extract_headerFrame_of_commit (show execHdrPre s = _ from h) fun _ =>
      { HeaderFrame.refl .hdrPre s with }
  case hdrZero =>
    exact extract_headerFrame_of_commit (show execHdrZero s = _ from h) fun _ =>
      { HeaderFrame.refl .hdrZero s with }
  case hdrFlen =>
    exact extract_headerFrame_of_commit (show execHdrFlen s = _ from h) fun _ =>
      { HeaderFrame.refl .hdrFlen s with flen := fun hne => absurd rfl hne }
  case hdrCodec =>
    exact extract_headerFrame_of_commit (show execHdrCodec s = _ from h) fun _ =>
      { HeaderFrame.refl .hdrCodec s with codec := fun hne => absurd rfl hne }
  case hdrNrec =>
    exact extract_headerFrame_of_commit (show execHdrNrec s = _ from h) fun _ =>
      { HeaderFrame.refl .hdrNrec s with nrec := fun hne => absurd rfl hne }
  all_goals simp [headerRows] at hi

theorem mem_uopRows_of_headerRows {i : Instr} (hi : i ∈ headerRows) : i ∈ uopRows :=
  (by decide : headerRows ⊆ uopRows) hi

/-- Settles O43: BUF and the host's side, POS and the error registers by what holds of every row, the other registers by
the header's own frame. -/
theorem headerStepsFrame : Obligations.HeaderStepsFrame := by
  unfold Obligations.HeaderStepsFrame
  intro i hi s s' h
  have hrow : i ∈ uopRows := mem_uopRows_of_headerRows hi
  obtain ⟨himei, hflen, hcodec, hnrec, hrest⟩ := exec_headerFrame hi h
  simp only [Prod.mk.injEq] at hrest
  obtain ⟨hfooter, hio, hrecDone, hcmm, hcls⟩ := hrest
  obtain ⟨hbuf, hside⟩ := engineNeverWritesTheHostsSide i hrow s s' h
  refine ⟨himei, hflen, hcodec, hnrec, fun hnone => exec_row_pos_of_width_zero hrow h ?_, exec_row_errRegs hrow h,
    hfooter, hio, hrecDone, hcmm, hcls, hside, hbuf⟩
  rcases hnone with rfl | rfl <;> rfl

/-! ### Which step raises which error -/

/-- R229: which row raises which error, and on what test. -/
inductive Raises (s : State) : Instr → ErrKind → Prop where
  | invalidLength : Raises s .lenChk .invalidLength
  | truncatedFrame {i : Instr} (hi : i ∈ readingRows) (hshort : s.len.toNat < s.pos.toNat + readWidth i s) :
      Raises s i .truncatedFrame
  | invalidEncoding : Raises s .hdrImei .invalidEncoding

/-- An outcome of row `i` in `s` is that of a reading step whose rule raises an error of R229 or commits outside ERROR. -/
def ReadsAndRaises (i : Instr) (s : State) (o : Host.Outcome State Fault Refusal) : Prop :=
  ∃ body, o = extract i body s ∧ ∀ bs t,
    (∃ e, body bs t = .raise e ∧ Raises s i e) ∨ ∃ ts t', body bs t = .commit ts t' ∧ errorFlag t' = false

/-- A rule that raises no error of its own. -/
theorem readsAndRaises_of_commit {i : Instr} {s : State} {toks : List Byte → State → List Token}
    {regs : List Byte → State → State} (h : ∀ bs t, errorFlag (regs bs t) = false) :
    ReadsAndRaises i s (extract i (fun bs t => .commit (toks bs t) (regs bs t)) s) :=
  ⟨_, rfl, fun bs t => .inr ⟨_, _, rfl, h bs t⟩⟩

theorem execHdrImei_raises (s : State) : ReadsAndRaises .hdrImei s (execHdrImei s) := by
  refine ⟨_, rfl, fun bs t => ?_⟩
  split
  · exact .inr ⟨_, _, rfl, rfl⟩
  · exact .inl ⟨_, rfl, .invalidEncoding⟩

theorem groupCount_raises (i : Instr) (c : BitVec 3) (s : State) : ReadsAndRaises i s (groupCount i c s) := by
  refine readsAndRaises_of_commit fun bs t => ?_
  split
  · exact endGroup_noError ..
  · rfl

theorem entryValue_raises (i : Instr) (c : BitVec 3) (pack : List Byte → DWord) (s : State) :
    ReadsAndRaises i s (entryValue i c pack s) :=
  readsAndRaises_of_commit fun _ _ => endEntry_noError ..

theorem execVarData_raises (s : State) : ReadsAndRaises .varData s (execVarData s) :=
  readsAndRaises_of_commit fun _ _ => endEntry_noError ..

theorem execHdrNrec_raises (s : State) : ReadsAndRaises .hdrNrec s (execHdrNrec s) := by
  refine readsAndRaises_of_commit fun bs t => ?_
  split <;> rfl

/-- Of the rules of the reading rows only HDR_IMEI's raises an error of its own. -/
theorem exec_reading_raises {i : Instr} (hi : i ∈ readingRows) (s : State) : ReadsAndRaises i s (exec i s) := by
  cases i with
  | idle | lenChk | done | error | start _ | clear _ => simp [readingRows] at hi
  | hdrImei => exact execHdrImei_raises s
  | hdrNrec => exact execHdrNrec_raises s
  | grpCnt1 | grpCnt2 | grpCnt4 | grpCnt8 | grpCntX => exact groupCount_raises _ _ s
  | entVal1 | entVal2 | entVal4 | entVal8 => exact entryValue_raises _ _ _ s
  | varData => exact execVarData_raises s
  | hdrPre | hdrZero | hdrFlen | hdrCodec | recTs | recPrio | recLon | recLat | recAlt | recAng | recSat | recSpd | ioEvid
  | ioTotal | entId1 | entId2 | entId4 | entId8 | entIdX | varLen | ftrNrec2 | ftrCrc =>
    simp only [exec, execHdrPre, execHdrZero, execHdrFlen, execHdrCodec, recordField, execRecTs, execRecPrio, execRecLon,
      execRecLat, execRecAlt, execRecAng, execRecSat, execRecSpd, execIoEvid, execIoTotal, entryId, execEntId1, execEntId2,
      execEntId4, execEntId8, execEntIdX, execVarLen, execFtrNrec2, execFtrCrc]
    exact readsAndRaises_of_commit fun _ _ => rfl

/-- A row rests or holds, or stays outside ERROR, or raises an error of R229. -/
theorem exec_row_raises {i : Instr} (hi : i ∈ uopRows) {s s' : State} (h : exec i s = .next s') :
    s' = s ∨ errorFlag s' = false ∨ ∃ e, s' = errorEntry (uopCode i) e s ∧ Raises s i e := by
  rcases uopRows_cases hi with rfl | rfl | rfl | rfl | hread
  case inl | inr.inr.inl | inr.inr.inr.inl =>
    cases h
    exact .inl rfl
  case inr.inl =>
    rcases execLenChk_cases s with ⟨-, hx⟩ | ⟨-, -, hx⟩ | ⟨-, -, hx⟩ <;> rw [hx] at h
    · exact (raiseError_next h).imp_right fun he => .inr ⟨_, he, .invalidLength⟩
    · cases h
      exact .inr (.inl rfl)
    · cases h
      exact .inl rfl
  case inr.inr.inr.inr =>
    obtain ⟨body, hbody, heffect⟩ := exec_reading_raises hread s
    rw [hbody] at h
    rcases extract_next h with hsame | ⟨hshort, -, he⟩ | ⟨bs, -, hfinish⟩
    · exact .inl hsame
    · exact .inr (.inr ⟨_, he, .truncatedFrame hread hshort⟩)
    · rcases heffect bs (advance (readWidth i s) s) with ⟨e, hraise, he⟩ | ⟨ts, t, hcommit, hclear⟩
      · rw [hraise] at hfinish
        exact (raiseError_next hfinish).imp_right fun hentry => .inr ⟨e, hentry, he⟩
      · rw [hcommit] at hfinish
        cases hfinish
        exact .inr (.inl hclear)

/-- A header step stands at its fixed offset (R80). -/
theorem Invariant.pos_of_header {i : Instr} {s : State} (hinv : Invariant s) (hd : decodeUop (uop s) = .ok i)
    (hi : 1 ≤ (stateOf i).toNat ∧ (stateOf i).toNat ≤ 7) : s.pos.toNat = headerOffset (stateOf i) := by
  rw [hinv.headerPos (inHeader_of_decode hd hi), state_eq_stateOf hd]

/-- In a state that meets the invariant the bytes of HDR_PRE and HDR_IMEI are there, LEN being at least 20 (R121), and so
are the zero bytes of an empty VAR_DATA. -/
theorem Invariant.inBounds {i : Instr} {s : State} (hinv : Invariant s) (hd : decodeUop (uop s) = .ok i)
    (hi : i = .hdrPre ∨ i = .hdrImei ∨ i = .varData ∧ s.n = 0#16) : s.pos.toNat + readWidth i s ≤ s.len.toNat := by
  have hread : i ∈ readingRows := by rcases hi with rfl | rfl | ⟨rfl, -⟩ <;> decide
  obtain ⟨hbusy, hpast⟩ := busy_of_reading hread hd
  have hlen := hinv.lenChecked hbusy hpast
  rcases hi with rfl | rfl | ⟨rfl, hn⟩
  · have hpos : s.pos.toNat = 0 := hinv.pos_of_header hd (by decide)
    simp only [readWidth]
    omega
  · have hpos : s.pos.toNat = 2 := hinv.pos_of_header hd (by decide)
    simp only [readWidth]
    omega
  · simp only [readWidth, hn]
    exact hinv.posLe hbusy

/-- Settles O19: R229's three cases; the header's fixed offsets give POS and rule out the short reads of HDR_PRE and
HDR_IMEI. -/
theorem eachStepRaisesOnlyItsErrors : Obligations.EachStepRaisesOnlyItsErrors := by
  unfold Obligations.EachStepRaisesOnlyItsErrors
  intro s s' i hinv hd h hbefore hafter
  rcases exec_row_raises (decodeUop_sound hd).1 h with rfl | hclear | ⟨e, rfl, hraises⟩
  · exact absurd (hbefore.symm.trans hafter) (by decide)
  · exact absurd (hclear.symm.trans hafter) (by decide)
  refine ⟨rfl, rfl, rfl, ?_⟩
  cases hraises with
  | invalidLength =>
    exact ⟨nofun, nofun, nofun, .inl ⟨rfl, rfl, BitVec.eq_of_toNat_eq (hinv.pos_of_header hd (by decide))⟩⟩
  | truncatedFrame hread hshort =>
    have hout := fun hi => Nat.not_le_of_lt hshort (hinv.inBounds hd hi)
    refine ⟨?_, ?_, fun hi => hout (.inl hi), .inr (.inl ⟨rfl, hread, fun hi => hout (.inr (.inl hi)),
      fun hi hn => hout (.inr (.inr ⟨hi, hn⟩))⟩)⟩
    · rintro rfl
      exact absurd hread (by decide)
    · rintro rfl
      exact absurd hread (by decide)
  | invalidEncoding =>
    exact ⟨nofun, nofun, nofun, .inr (.inr ⟨rfl, rfl, BitVec.eq_of_toNat_eq (hinv.pos_of_header hd (by decide))⟩)⟩

/-! ### Which moves change STATE -/

/-- At rest the engine's turn changes nothing (R120, R192, R193; log 5). -/
theorem engineTurn_of_rest {s s' : State} (hrest : busy s = false) (h : engineTurn s = .next s') : s' = s := by
  obtain ⟨i, hd, hexec⟩ := engineTurn_next h
  rcases uopRows_cases (decodeUop_sound hd).1 with rfl | rfl | rfl | rfl | hread
  case inr.inl =>
    have hbusy : busy s = true := busy_iff.2 (by rw [state_eq_stateOf hd]; decide)
    exact absurd (hrest.symm.trans hbusy) (by decide)
  case inr.inr.inr.inr => exact absurd (hrest.symm.trans (busy_of_reading hread hd).1) (by decide)
  all_goals
    cases hexec
    rfl

@[simp] theorem writeLen_state (v : Word) (s : State) : (writeLen v s).state = s.state := by
  unfold writeLen
  split <;> rfl

@[simp] theorem consume_state (t : Token) (s : State) : (consume t s).state = s.state := by
  rcases consume_cases t s with ⟨-, h⟩ | ⟨-, h⟩ | ⟨-, -, h⟩ <;> rw [h]

/-- A CTRL write changes STATE only at rest and by a command (R202, R203, R210). -/
theorem writeCtrl_state {v : Word} {s s' : State} (h : writeCtrl v s = .next s') :
    s'.state = s.state ∨ busy s = false ∧ (v.getLsbD 0 = true ∨ v.getLsbD 1 = true) := by
  rcases writeCtrl_cases v s with ⟨hstart, hx⟩ | ⟨-, hclear, hx⟩ | ⟨-, -, hx⟩ <;> rw [hx] at h
  · rcases execStart_cases v s with ⟨-, hx⟩ | ⟨hrest, -⟩ | ⟨hrest, -⟩ | ⟨hrest, -⟩
    · rw [hx] at h
      cases h
      exact .inl rfl
    all_goals exact .inr ⟨hrest, .inl hstart⟩
  · rcases execClear_cases v s with ⟨-, hx⟩ | ⟨hrest, -⟩
    · rw [hx] at h
      cases h
      exact .inl rfl
    · exact .inr ⟨hrest, .inr hclear⟩
  · cases h
    exact .inl rfl

/-- The next step is the engine's turn: an empty agenda, an engine move, or a pop that waits (R200, R208; log 4, log 6). -/
def EngineNext (s : State) : Prop :=
  s.agenda = [] ∨ (∃ rest, s.agenda = .engine :: rest) ∨ ∃ rest, s.agenda = .pop :: rest ∧ s.outq = []

/-- Everything that changes STATE: the engine's turn during a decode, a command at rest, or reset (R210, R230, R231,
R254). -/
theorem step_state {s s' : State} (h : step s = .next s') :
    s'.state = s.state ∨ (busy s = true ∧ EngineNext s) ∨
    (busy s = false ∧ ∃ v rest, s.agenda = .csrWrite Csr.ctrl allLanes v :: rest ∧
      (v.getLsbD 0 = true ∨ v.getLsbD 1 = true)) ∨
    ∃ rest, s.agenda = .reset :: rest := by
  have hengine : ∀ rest, engineTurn { s with agenda := rest } = .next s' → EngineNext s →
      s'.state = s.state ∨ (busy s = true ∧ EngineNext s) := fun rest hturn hnext => by
    cases hbusy : busy s with
    | true => exact .inr ⟨rfl, hnext⟩
    | false => exact .inl (by rw [engineTurn_of_rest (s := { s with agenda := rest }) hbusy hturn])
  rcases step_cases h with ⟨hagenda, hturn⟩ | ⟨rest, hagenda, hturn⟩ | ⟨off, lanes, v, rest, hagenda, hwrite⟩ |
    ⟨off, lanes, rest, -, hread⟩ | ⟨off, bytes, rest, -, hbuf⟩ | ⟨rest, hagenda, hpop⟩ | ⟨rest, hagenda, -⟩
  · exact (hengine s.agenda hturn (.inl hagenda)).imp_right .inl
  · exact (hengine rest hturn (.inr (.inl ⟨rest, hagenda⟩))).imp_right .inl
  · obtain ⟨haligned, ⟨rfl, hctrl⟩ | ⟨-, rfl⟩ | ⟨-, -, rfl⟩⟩ := writeCsr_next hwrite
    · obtain ⟨-, rfl⟩ := csrAligned_iff.1 haligned
      rcases writeCtrl_state (s := { s with agenda := rest }) hctrl with hsame | ⟨hrest, hcommand⟩
      · exact .inl hsame
      · exact .inr (.inr (.inl ⟨hrest, v, rest, hagenda, hcommand⟩))
    · exact .inl (writeLen_state ..)
    · exact .inl rfl
  · obtain ⟨-, rfl⟩ := readCsr_next hread
    exact .inl rfl
  · obtain ⟨-, -, rfl⟩ := writeBuf_next hbuf
    exact .inl rfl
  · rcases popTurn_cases rest s with ⟨hempty, hx⟩ | ⟨t, q, -, hx⟩ <;> rw [hx] at hpop
    · exact (hengine s.agenda hpop (.inr (.inr ⟨rest, hagenda, hempty⟩))).imp_right .inl
    · cases hpop
      exact .inl (consume_state ..)
  · exact .inr (.inr (.inr ⟨rest, hagenda⟩))

/-- Settles O54: of what can change STATE, the engine's turn is left during a decode and a command at rest. -/
theorem onlyCommandsLeaveRestAndOnlyResetCutsADecode : Obligations.OnlyCommandsLeaveRestAndOnlyResetCutsADecode := by
  unfold Obligations.OnlyCommandsLeaveRestAndOnlyResetCutsADecode
  refine ⟨fun s s' hrest h hchanged => ?_, fun s s' hbusy h hchanged => ?_⟩
  · rcases step_state h with hsame | ⟨hbusy, -⟩ | ⟨-, hcommand⟩ | hreset
    · exact absurd hsame hchanged
    · exact absurd (hrest.symm.trans hbusy) (by decide)
    · exact .inl hcommand
    · exact .inr hreset
  · rcases step_state h with hsame | ⟨-, hnext⟩ | ⟨hrest, -⟩ | hreset
    · exact absurd hsame hchanged
    · rcases hnext with hnil | hmove | hpop
      · exact .inl hnil
      · exact .inr (.inl hmove)
      · exact .inr (.inr (.inl hpop))
    · exact absurd (hrest.symm.trans hbusy) (by decide)
    · exact .inr (.inr (.inr hreset))

end Sys2Proof.Machine

/-!
PROOFS. The record family of 41_record.md: what the steps REC_TS to REC_SPD emit and leave unchanged (O23, O24, O44),
and what the coordinate converter computes (O52, O53).
-/
namespace Sys2Proof.Machine

/-! ### What the record steps do -/

/-- A ready record step, whatever its field: POS moves by the read width, STATE goes on, one token joins
OUTQ (R140). -/
theorem recordField_of_ready {i : Instr} {s : State} {bs : List Byte} (pack : List Byte → DWord) (next : BitVec 5)
    (ready : Ready i s bs) :
    recordField i pack next s = .next
      { s with
        pos := s.pos + BitVec.ofNat 32 (readWidth i s), state := next,
        outq := s.outq ++ [fieldToken i s.recDone 0#16 (pack bs)] } := by
  rw [recordField, extract_of_ready _ ready]
  rfl

/-- Settles O23: each step is ready and emits its big-endian field, the bytes side by side (R64). -/
theorem recordScalarsAreEmitted : Obligations.RecordScalarsAreEmitted := by
  unfold Obligations.RecordScalarsAreEmitted
  refine ⟨fun s b0 b1 b2 b3 b4 b5 b6 b7 ready => ?ts, fun s b ready => ?prio, fun s b0 b1 ready => ?alt,
    fun s b0 b1 ready => ?ang, fun s b ready => ?sat, fun s b0 b1 ready => ?spd⟩
  case ts =>
    show execRecTs s = _
    rw [execRecTs, recordField_of_ready _ _ ready, field_u64]
    rfl
  case prio =>
    show execRecPrio s = _
    rw [execRecPrio, recordField_of_ready _ _ ready, field_u8]
    rfl
  case alt =>
    show execRecAlt s = _
    rw [execRecAlt, recordField_of_ready _ _ ready, field_u16]
    rfl
  case ang =>
    show execRecAng s = _
    rw [execRecAng, recordField_of_ready _ _ ready, field_u16]
    rfl
  case sat =>
    show execRecSat s = _
    rw [execRecSat, recordField_of_ready _ _ ready, field_u8]
    rfl
  case spd =>
    show execRecSpd s = _
    rw [execRecSpd, recordField_of_ready _ _ ready, field_u16]
    rfl

/-- Settles O24: each step is ready and emits the packing of its big-endian field (R97). -/
theorem coordinatesAreEmittedWithSignAndMagnitude : Obligations.CoordinatesAreEmittedWithSignAndMagnitude := by
  unfold Obligations.CoordinatesAreEmittedWithSignAndMagnitude
  refine ⟨fun s b0 b1 b2 b3 ready => ?lon, fun s b0 b1 b2 b3 ready => ?lat⟩
  case lon =>
    show execRecLon s = _
    rw [execRecLon, recordField_of_ready _ _ ready, field_u32]
    rfl
  case lat =>
    show execRecLat s = _
    rw [execRecLat, recordField_of_ready _ _ ready, field_u32]
    rfl

/-! ### What the record steps leave unchanged -/

/-- The registers that no step of the form `recordField` writes on any path: the results, the IO element's working
registers, REC_DONE, CMM and CLS. -/
def decodeRegs (s : State) := (headerRegs s, footerRegs s, ioRegs s, s.recDone, s.cmm, s.cls)

theorem recordField_decodeRegs {i : Instr} {pack : List Byte → DWord} {next : BitVec 5} {s s' : State}
    (h : recordField i pack next s = .next s') : decodeRegs s' = decodeRegs s := by
  rcases extract_next_cases h with rfl | ⟨e, -, rfl⟩ | ⟨bs, ts, t, -, hcommit, rfl⟩
  · rfl
  · rfl
  · cases hcommit
    rfl

/-- REC_TS to REC_SPD (R140), and IO_EVID, which has their form (R161). -/
def fieldRows : List Instr := [.recTs, .recPrio, .recLon, .recLat, .recAlt, .recAng, .recSat, .recSpd, .ioEvid]

theorem exec_fieldRow {i : Instr} (hi : i ∈ fieldRows) (s : State) :
    ∃ pack next, exec i s = recordField i pack next s := by
  cases i
  case recTs | recPrio | recLon | recLat | recAlt | recAng | recSat | recSpd | ioEvid => exact ⟨_, _, rfl⟩
  all_goals simp [fieldRows] at hi

theorem mem_uopRows_of_fieldRows {i : Instr} (hi : i ∈ fieldRows) : i ∈ uopRows :=
  (by decide : fieldRows ⊆ uopRows) hi

/-- Settles O44: BUF, the host's side and the error registers by what holds of every row, the other registers by the
form the nine steps share. -/
theorem recordStepsFrame : Obligations.RecordStepsFrame := by
  unfold Obligations.RecordStepsFrame
  intro i hi s s' h
  have hrow : i ∈ uopRows := mem_uopRows_of_fieldRows hi
  obtain ⟨hbuf, hside⟩ := engineNeverWritesTheHostsSide i hrow s s' h
  have herr := exec_row_errRegs hrow h
  obtain ⟨pack, next, hform⟩ := exec_fieldRow hi s
  have hregs := recordField_decodeRegs (hform.symm.trans h)
  simp only [decodeRegs, Prod.mk.injEq] at hregs
  obtain ⟨hheader, hfooter, hio, hrecDone, hcmm, hcls⟩ := hregs
  exact ⟨hheader, hfooter, hio, herr, hrecDone, hcmm, hcls, hside, hbuf⟩

/-! ### The coordinate converter (R144, R152) -/

section Coordinate
variable {u : Word}

theorem bit31_iff : u.getLsbD 31 = true ↔ 2 ^ 31 ≤ u.toNat := by
  rw [← BitVec.msb_eq_getLsbD_last (x := u), BitVec.msb_eq_decide, decide_eq_true_iff]

theorem coordMag_of_nonneg (h : u.getLsbD 31 = false) : coordMag u = u := by
  rw [coordMag, coordSign, h]
  rfl

theorem coordMag_of_neg (h : u.getLsbD 31 = true) : coordMag u = ~~~u := by
  rw [coordMag, coordSign, if_pos h]
  exact BitVec.xor_allOnes

theorem coordUnits_of_nonneg (h : u.getLsbD 31 = false) : coordUnits u = u.toNat := by
  rw [coordUnits, coordMag_of_nonneg h, coordSign, h]
  rfl

theorem coordUnits_of_neg (h : u.getLsbD 31 = true) : coordUnits u = -((~~~u).toNat : Int) := by
  rw [coordUnits, coordMag_of_neg h, coordSign, if_pos h]

theorem coordMag_lt (u : Word) : (coordMag u).toNat < 2 ^ 31 := by
  cases h : u.getLsbD 31 with
  | false =>
    have hsmall : ¬2 ^ 31 ≤ u.toNat := fun hge => absurd (h.symm.trans (bit31_iff.2 hge)) (by decide)
    rw [coordMag_of_nonneg h]
    omega
  | true =>
    have hlarge := bit31_iff.1 h
    rw [coordMag_of_neg h, BitVec.toNat_not]
    omega

/-- COORD in units of 10^−7 is ±m with m < 2^31 (R144). -/
theorem coordUnits_range (u : Word) : -2147483647 ≤ coordUnits u ∧ coordUnits u ≤ 2147483647 := by
  have hmag := coordMag_lt u
  unfold coordUnits
  split <;> omega

/-- COORD's units lie one above the two's-complement reading: the complement is not incremented (R152). -/
theorem coordUnits_eq_toInt_add_one (h : u.getLsbD 31 = true) : coordUnits u = u.toInt + 1 := by
  have hlarge := bit31_iff.1 h
  have hlt := u.isLt
  rw [coordUnits_of_neg h, BitVec.toNat_not, BitVec.toInt_eq_toNat_cond, if_neg (by omega)]
  omega

end Coordinate

/-- Of two fractions with one denominator the order is that of the numerators. -/
theorem mkRat_le_mkRat {a b : Int} (h : a ≤ b) (d : Nat) : mkRat a d ≤ mkRat b d := by
  rw [Rat.mkRat_eq_div, Rat.mkRat_eq_div]
  exact div_le_div_of_nonneg_right (Int.cast_le.2 h) (Nat.cast_nonneg d)

/-- Settles O52: bit 31 chooses between u and its complement, and COORD's units stay within ±(2^31 − 1). -/
theorem coordinateConverter : Obligations.CoordinateConverter := by
  unfold Obligations.CoordinateConverter
  intro u
  obtain ⟨hlow, hhigh⟩ := coordUnits_range u
  refine ⟨fun hclear => ?_, fun hset => ?_, coordMag_lt u, mkRat_le_mkRat hlow _, mkRat_le_mkRat hhigh _,
    coordUnits u, rfl⟩
  · exact ⟨hclear, coordMag_of_nonneg hclear, by rw [coord, coordUnits_of_nonneg hclear]⟩
  · have hxor : u ^^^ 0xFFFFFFFF#32 = ~~~u := BitVec.xor_allOnes
    rw [hxor]
    exact ⟨hset, coordMag_of_neg hset, by rw [coord, coordUnits_of_neg hset]⟩

/-- Settles O53: the complement of a word with bit 31 set is below 2^31, so its increment does not wrap, and COORD's
units are one above the two's-complement reading. -/
theorem noTwosComplementCorrection : Obligations.NoTwosComplementCorrection := by
  unfold Obligations.NoTwosComplementCorrection
  intro u hset
  constructor
  · have hmag := coordMag_lt u
    rw [coordMag_of_neg hset] at hmag ⊢
    omega
  · rw [coord, coordUnits_eq_toInt_add_one hset, Rat.mkRat_add_mkRat_of_den _ _ (by decide)]

end Sys2Proof.Machine

/-!
PROOFS. The IO element family of 42_io_element.md: what the steps IO_EVID to ENT_VAL.8 complete with (O25 to O28), what
the steps after IO_EVID leave unchanged (O45), and that TOTAL bounds nothing (O51).
-/
namespace Sys2Proof.Machine

/-! ### The event id and the total -/

/-- Settles O25: both steps are ready and commit; the big-endian field is the bytes side by side (R64). -/
theorem eventIdAndTotalAreRead : Obligations.EventIdAndTotalAreRead := by
  unfold Obligations.EventIdAndTotalAreRead
  refine ⟨fun s b0 b1 ready => ?evid, fun s b0 b1 ready => ?total⟩
  case evid =>
    show recordField .ioEvid (fun bs => zext64 (field 16 bs)) StateCode.ioTotal s = _
    rw [recordField_of_ready _ _ ready, field_u16]
    rfl
  case total =>
    show execIoTotal s = _
    rw [execIoTotal, extract_of_ready _ ready, field_u16]
    rfl

/-! ### The sub-group counts -/

/-- A classed row's code is its STATE over its class (R90, R93). -/
theorem ClassRow.uopCode_eq {i : Instr} {code : BitVec 5} {c : BitVec 3} {n : Nat} (h : ClassRow i code c n) :
    uopCode i = code ++ c := by
  rw [← h.state, ← h.selects.cls]
  exact (extract_state_append_cls _).symm

/-- Row `i` is GRP_CNT of class `c`, which is one of the five (R91, R163). -/
structure GroupRow (i : Instr) (c : BitVec 3) : Prop where
  row : ClassRow i StateCode.grpCnt c 2
  exec_eq : ∀ s, exec i s = groupCount i c s
  classLe : c.toNat ≤ 4

theorem FixedClass.groupRow {cnt id val : Instr} {c : BitVec 3} {w : Nat} (h : FixedClass cnt id val c w) :
    GroupRow cnt c := ⟨h.cntRow, h.exec_cnt, Nat.le_of_lt h.fixed⟩

theorem grpCntX_groupRow : GroupRow .grpCntX 4#3 :=
  ⟨⟨by decide, ⟨rfl, rfl⟩, rfl, fun _ => rfl⟩, fun _ => rfl, by decide⟩

section GroupRow
variable {i : Instr} {c : BitVec 3} {s : State} {b0 b1 : Byte}

/-- The token of a count (R97). -/
theorem GroupRow.tag (h : GroupRow i c) : uopCode i = 0x90#8 + c.setWidth 8 := by
  have key : ∀ c : BitVec 3, StateCode.grpCnt ++ c = 0x90#8 + c.setWidth 8 := by decide
  rw [h.row.uopCode_eq, key]

/-- A ready count step: the count's token, and where the count leads. -/
theorem GroupRow.exec_of_ready (h : GroupRow i c) (ready : Ready i s [b0, b1]) :
    exec i s = .next (emit [fieldToken i s.recDone 0#16 (zext64 (b0 ++ b1))]
      (afterCount c s.sumk (b0 ++ b1) { s with pos := s.pos + 2#32 })) := by
  rw [h.exec_eq, groupCount, extract_of_ready _ ready, h.row.width, field_u16]
  rfl

/-- A count that is not 0 leads to the first entry of the class. -/
theorem GroupRow.exec_of_ne_zero (h : GroupRow i c) (ready : Ready i s [b0, b1]) (hcount : b0 ++ b1 ≠ 0#16) :
    exec i s = .next
      { s with
        pos := s.pos + 2#32, k := b0 ++ b1, idx := 0#16, sumk := s.sumk + (b0 ++ b1).setWidth 19,
        state := 0x13#5, cls := c,
        outq := s.outq ++ [{ tag := 0x90#8 + c.setWidth 8, recNo := s.recDone, ioId := 0#16,
                             value := (b0 ++ b1).setWidth 64 }] } := by
  have hsumk : BitVec.ofNat 19 (s.sumk.toNat + (b0 ++ b1).toNat) = s.sumk + (b0 ++ b1).setWidth 19 :=
    BitVec.eq_of_toNat_eq (by simp)
  rw [h.exec_of_ready ready, afterCount, if_neg hcount, ← hsumk, ← h.tag]
  rfl

/-- An empty sub-group adds nothing to SUMK and ends at once. -/
theorem GroupRow.exec_of_zero (h : GroupRow i c) (ready : Ready i s [b0, b1]) (hcount : b0 ++ b1 = 0#16) :
    exec i s = .next (emit [{ tag := 0x90#8 + c.setWidth 8, recNo := s.recDone, ioId := 0#16, value := 0#64 }]
      (endGroup c s.sumk.toNat { s with pos := s.pos + 2#32, k := 0#16, idx := 0#16 })) := by
  have hsumk : BitVec.ofNat 19 s.sumk.toNat = s.sumk := BitVec.eq_of_toNat_eq (by simp)
  rw [h.exec_of_ready ready, afterCount, hcount, if_pos rfl, countRead, ← h.tag]
  simp only [BitVec.toNat_ofNat, Nat.zero_mod, Nat.add_zero, hsumk]
  rfl

end GroupRow

/-- Settles O26: the three clauses are the count that is not 0 and the two ends of a group (R160). -/
theorem groupCountsAreRead : Obligations.GroupCountsAreRead := by
  unfold Obligations.GroupCountsAreRead
  have hrows : ∀ p ∈ [(Instr.grpCnt1, 0#3), (.grpCnt2, 1#3), (.grpCnt4, 2#3), (.grpCnt8, 3#3), (.grpCntX, 4#3)],
      GroupRow p.1 p.2 := by
    simp only [List.forall_mem_cons]
    exact ⟨fixedClass1.groupRow, fixedClass2.groupRow, fixedClass4.groupRow, fixedClass8.groupRow, grpCntX_groupRow,
      List.forall_mem_nil _⟩
  intro p hp s b0 b1 ready
  have h := hrows p hp
  refine ⟨h.exec_of_ne_zero ready, fun hzero hfixed => ?nextClass, fun hzero hlast => ?recordEnd⟩
  case nextClass =>
    have hlt : p.2.toNat < 4 := Nat.lt_of_le_of_ne h.classLe fun heq => hfixed (BitVec.eq_of_toNat_eq heq)
    rw [h.exec_of_zero ready hzero, endGroup, if_pos hlt]
    rfl
  case recordEnd =>
    have hrec : BitVec.ofNat 8 (s.recDone.toNat + 1) = s.recDone + 1#8 := BitVec.eq_of_toNat_eq (by simp)
    rw [h.exec_of_zero ready hzero, hlast, ← hrec]
    rfl

/-! ### The entries -/

section FixedClass
variable {cnt id val : Instr} {c : BitVec 3} {w : Nat} {s : State}

/-- A ready ENT_ID of a fixed class (R168): no token. -/
theorem FixedClass.exec_id_of_ready (h : FixedClass cnt id val c w) {b0 b1 : Byte} (ready : Ready id s [b0, b1]) :
    exec id s = .next { s with pos := s.pos + 2#32, id := b0 ++ b1, state := 0x14#5, cls := c } := by
  rw [h.exec_id, entryId, extract_of_ready _ ready, h.idRow.width, field_u16, finish_commit, emit_nil]
  rfl

/-- END_ENTRY in a fixed class: the next class's count after the K-th entry, else the next entry (R160). -/
theorem endEntry_of_fixed (hc : c.toNat < 4) (s : State) :
    endEntry c s =
      { s with
        idx := s.idx + 1#16,
        state := (if s.idx.toNat + 1 = s.k.toNat then StateCode.grpCnt else StateCode.entId),
        cls := (if s.idx.toNat + 1 = s.k.toNat then c + 1#3 else c) } := by
  have hidx : BitVec.ofNat 16 (s.idx.toNat + 1) = s.idx + 1#16 := BitVec.eq_of_toNat_eq (by simp)
  rcases endEntry_cases c s with ⟨hlast, heq⟩ | ⟨hmore, heq⟩ <;> rw [heq, hidx]
  · rw [if_pos hlast, if_pos hlast, endGroup, if_pos hc]
    rfl
  · rw [if_neg hmore, if_neg hmore]
    rfl

/-- A ready ENT_VAL of a fixed class (R173): the value's token with the entry's id, and END_ENTRY. -/
theorem FixedClass.exec_val_of_ready (h : FixedClass cnt id val c w) {bs : List Byte} (ready : Ready val s bs) :
    exec val s = .next
      { s with
        pos := s.pos + BitVec.ofNat 32 (w / 8), idx := s.idx + 1#16,
        state := (if s.idx.toNat + 1 = s.k.toNat then 0x12#5 else 0x13#5),
        cls := (if s.idx.toNat + 1 = s.k.toNat then c + 1#3 else c),
        outq := s.outq ++ [fieldToken val s.recDone s.id (zext64 (field w bs))] } := by
  rw [h.exec_val, entryValue, extract_of_ready _ ready, h.valRow.width, finish_commit, endEntry_of_fixed h.fixed]
  rfl

end FixedClass

/-- Settles O27: each step is ready and commits its big-endian field without a token. -/
theorem entryIdsAndLengthsAreRead : Obligations.EntryIdsAndLengthsAreRead := by
  unfold Obligations.EntryIdsAndLengthsAreRead
  refine ⟨?fixed, fun s b0 b1 ready => ?entIdX, fun s b0 b1 ready => ?varLen⟩
  case fixed =>
    simp only [List.forall_mem_cons]
    exact ⟨fun _ _ _ => fixedClass1.exec_id_of_ready, fun _ _ _ => fixedClass2.exec_id_of_ready,
      fun _ _ _ => fixedClass4.exec_id_of_ready, fun _ _ _ => fixedClass8.exec_id_of_ready, List.forall_mem_nil _⟩
  case entIdX =>
    show execEntIdX s = _
    rw [execEntIdX, extract_of_ready _ ready, field_u16, finish_commit, emit_nil]
    rfl
  case varLen =>
    show execVarLen s = _
    rw [execVarLen, extract_of_ready _ ready, field_u16, finish_commit, emit_nil]
    rfl

/-- Settles O28: the four fixed classes share one form; only the width of the value differs. -/
theorem entryValuesAreEmitted : Obligations.EntryValuesAreEmitted := by
  unfold Obligations.EntryValuesAreEmitted
  refine ⟨fun s b ready => ?one, fun s b0 b1 ready => ?two, fun s b0 b1 b2 b3 ready => ?four,
    fun s b0 b1 b2 b3 b4 b5 b6 b7 ready => ?eight⟩
  case one =>
    rw [fixedClass1.exec_val_of_ready ready, field_u8]
    rfl
  case two =>
    rw [fixedClass2.exec_val_of_ready ready, field_u16]
    rfl
  case four =>
    rw [fixedClass4.exec_val_of_ready ready, field_u32]
    rfl
  case eight =>
    rw [fixedClass8.exec_val_of_ready ready, field_u64, zext64_eq]
    rfl

/-! ### What the steps of the IO element leave unchanged -/

/-- GRP_CNT of the five classes (R163 to R167). -/
def groupRows : List Instr := [.grpCnt1, .grpCnt2, .grpCnt4, .grpCnt8, .grpCntX]

/-- The rows after IO_EVID that neither count nor end an entry: IDX stays. -/
def idxKeepers : List Instr := [.ioTotal, .entId1, .entId2, .entId4, .entId8, .entIdX, .varLen]

/-- What row `i` of the IO element, after IO_EVID, leaves as it was on every path, beside the host's side and the error
registers (R162 to R178). -/
structure IoFrame (i : Instr) (s t : State) : Prop where
  results : (headerRegs t, footerRegs t) = (headerRegs s, footerRegs s)
  total : i ≠ .ioTotal → t.total = s.total
  sumk : i ∉ .ioTotal :: groupRows → t.sumk = s.sumk
  k : i ∉ groupRows → t.k = s.k
  idx : i ∈ idxKeepers → t.idx = s.idx
  id : i ∉ [.entId1, .entId2, .entId4, .entId8, .entIdX] → t.id = s.id
  n : i ≠ .varLen → t.n = s.n
  record : i ≠ .grpCntX → i ≠ .varData → t.recDone = s.recDone ∧ t.cmm = s.cmm
  cls : i = .entIdX ∨ i = .varLen → t.cls = s.cls

section IoFrame
variable {i : Instr} {c : BitVec 3} {s t u : State}

theorem IoFrame.refl (i : Instr) (s : State) : IoFrame i s s :=
  ⟨rfl, fun _ => rfl, fun _ => rfl, fun _ => rfl, fun _ => rfl, fun _ => rfl, fun _ => rfl, fun _ _ => ⟨rfl, rfl⟩,
    fun _ => rfl⟩

theorem IoFrame.trans (h : IoFrame i s t) (h' : IoFrame i t u) : IoFrame i s u where
  results := h'.results.trans h.results
  total hi := (h'.total hi).trans (h.total hi)
  sumk hi := (h'.sumk hi).trans (h.sumk hi)
  k hi := (h'.k hi).trans (h.k hi)
  idx hi := (h'.idx hi).trans (h.idx hi)
  id hi := (h'.id hi).trans (h.id hi)
  n hi := (h'.n hi).trans (h.n hi)
  record hi hi' := ⟨(h'.record hi hi').1.trans (h.record hi hi').1, (h'.record hi hi').2.trans (h.record hi hi').2⟩
  cls hi := (h'.cls hi).trans (h.cls hi)

/-- Setting CLS is within the frame of every row but ENT_ID.X and VAR_LEN. -/
theorem gotoClass_ioFrame (hi : ¬(i = .entIdX ∨ i = .varLen)) (code : BitVec 5) (c : BitVec 3) (s : State) :
    IoFrame i s (gotoClass code c s) :=
  { IoFrame.refl i s with cls := fun hkeep => absurd hkeep hi }

/-- A row that counts or ends an entry may set CLS. -/
theorem clsFree_of_not_idxKeeper (hi : i ∉ idxKeepers) : ¬(i = .entIdX ∨ i = .varLen) := by
  rintro (rfl | rfl) <;> exact hi (by decide)

/-- END_GROUP writes CLS, or, in the variable class, REC_DONE and CMM. -/
theorem endGroup_ioFrame (hi : i ∉ idxKeepers) (hc : c.toNat < 4 ∨ i = .grpCntX ∨ i = .varData) (sk : Nat) (s : State) :
    IoFrame i s (endGroup c sk s) := by
  rcases endGroup_cases c sk s with ⟨-, heq⟩ | ⟨hvar, heq⟩ <;> rw [heq]
  · exact gotoClass_ioFrame (clsFree_of_not_idxKeeper hi) ..
  · have hlast : i = .grpCntX ∨ i = .varData := hc.resolve_left (Nat.not_lt.2 hvar)
    exact { IoFrame.refl i s with record := fun hcnt hdata => absurd hlast (not_or.2 ⟨hcnt, hdata⟩) }

/-- END_ENTRY writes IDX, and what END_GROUP writes. -/
theorem endEntry_ioFrame (hi : i ∉ idxKeepers) (hc : c.toNat < 4 ∨ i = .grpCntX ∨ i = .varData) (s : State) :
    IoFrame i s (endEntry c s) := by
  have hidx : IoFrame i s { s with idx := BitVec.ofNat 16 (s.idx.toNat + 1) } :=
    { IoFrame.refl i s with idx := fun hkeep => absurd hkeep hi }
  rcases endEntry_cases c s with ⟨-, heq⟩ | ⟨-, heq⟩ <;> rw [heq]
  · exact hidx.trans (endGroup_ioFrame hi hc ..)
  · exact hidx.trans (gotoClass_ioFrame (clsFree_of_not_idxKeeper hi) ..)

theorem advance_ioFrame (i : Instr) (m : Nat) (s : State) : IoFrame i s (advance m s) := { IoFrame.refl i s with }

/-- A reading step whose rule raises no error keeps the frame where its rule does. -/
theorem extract_ioFrame {toks : List Byte → State → List Token} {regs : List Byte → State → State}
    (h : extract i (fun bs t => .commit (toks bs t) (regs bs t)) s = .next t)
    (hregs : ∀ bs, IoFrame i s (regs bs (advance (readWidth i s) s))) : IoFrame i s t := by
  rcases extract_next_cases h with rfl | ⟨e, -, rfl⟩ | ⟨bs, ts, u, -, hcommit, rfl⟩
  · exact .refl ..
  · exact { IoFrame.refl i s with }
  · cases hcommit
    exact { hregs bs with }

theorem not_idxKeeper_of_groupRow : ∀ j ∈ groupRows, j ∉ idxKeepers := by decide

theorem groupCount_ioFrame (hi : i ∈ groupRows) (hc : c.toNat < 4 ∨ i = .grpCntX) (h : groupCount i c s = .next t) :
    IoFrame i s t := by
  have hcounts := not_idxKeeper_of_groupRow i hi
  refine extract_ioFrame h fun bs => ?_
  have hread : IoFrame i s (countRead s.sumk (field 16 bs) (advance (readWidth i s) s)) :=
    { IoFrame.refl i s with
      sumk := fun hkeep => absurd (List.mem_cons_of_mem _ hi) hkeep
      k := fun hkeep => absurd hi hkeep
      idx := fun hkeep => absurd hkeep hcounts }
  split
  · exact hread.trans (endGroup_ioFrame hcounts (hc.imp_right .inl) ..)
  · exact hread.trans (gotoClass_ioFrame (clsFree_of_not_idxKeeper hcounts) ..)

theorem entryId_ioFrame (hi : i ∈ [Instr.entId1, .entId2, .entId4, .entId8]) (h : entryId i c s = .next t) :
    IoFrame i s t := by
  have hrow : ∀ j ∈ [Instr.entId1, .entId2, .entId4, .entId8],
      j ∈ [Instr.entId1, .entId2, .entId4, .entId8, .entIdX] ∧ ¬(j = .entIdX ∨ j = .varLen) := by decide
  obtain ⟨hid, hcls⟩ := hrow i hi
  exact extract_ioFrame h fun bs =>
    { IoFrame.refl i s with
      id := fun hkeep => absurd hid hkeep
      cls := fun hkeep => absurd hkeep hcls }

theorem entryValue_ioFrame {pack : List Byte → DWord} (hi : i ∉ idxKeepers) (hc : c.toNat < 4)
    (h : entryValue i c pack s = .next t) : IoFrame i s t :=
  extract_ioFrame h fun _ => (advance_ioFrame ..).trans (endEntry_ioFrame hi (.inl hc) _)

/-- IO_TOTAL to VAR_DATA (R162 to R178). -/
def ioRows : List Instr :=
  [.ioTotal, .grpCnt1, .grpCnt2, .grpCnt4, .grpCnt8, .grpCntX, .entId1, .entId2, .entId4, .entId8,
   .entIdX, .entVal1, .entVal2, .entVal4, .entVal8, .varLen, .varData]

theorem exec_ioFrame (hi : i ∈ ioRows) (h : exec i s = .next t) : IoFrame i s t := by
  cases i
  case ioTotal =>
    exact extract_ioFrame (show execIoTotal s = _ from h) fun _ =>
      { IoFrame.refl .ioTotal s with
        total := fun hkeep => absurd rfl hkeep
        sumk := fun hkeep => absurd (by decide) hkeep
        cls := fun hkeep => absurd hkeep (by decide) }
  case grpCnt1 | grpCnt2 | grpCnt4 | grpCnt8 => exact groupCount_ioFrame (by decide) (.inl (by decide)) h
  case grpCntX => exact groupCount_ioFrame (by decide) (.inr rfl) h
  case entId1 | entId2 | entId4 | entId8 => exact entryId_ioFrame (by decide) h
  case entIdX =>
    exact extract_ioFrame (show execEntIdX s = _ from h) fun _ =>
      { IoFrame.refl .entIdX s with id := fun hkeep => absurd (by decide) hkeep }
  case entVal1 | entVal2 | entVal4 | entVal8 => exact entryValue_ioFrame (by decide) (by decide) h
  case varLen =>
    exact extract_ioFrame (show execVarLen s = _ from h) fun _ =>
      { IoFrame.refl .varLen s with n := fun hkeep => absurd rfl hkeep }
  case varData =>
    exact extract_ioFrame (show execVarData s = _ from h) fun _ =>
      (advance_ioFrame ..).trans (endEntry_ioFrame (by decide) (.inr (.inr rfl)) _)
  all_goals simp [ioRows] at hi

end IoFrame

theorem mem_uopRows_of_ioRows {i : Instr} (hi : i ∈ ioRows) : i ∈ uopRows :=
  (by decide : ioRows ⊆ uopRows) hi

/-- Settles O45: BUF, the host's side and the error registers by what holds of every row, the other registers by the
family's own frame. -/
theorem ioElementStepsFrame : Obligations.IoElementStepsFrame := by
  unfold Obligations.IoElementStepsFrame
  intro i hi s s' h
  have hrow : i ∈ uopRows := mem_uopRows_of_ioRows hi
  obtain ⟨hresults, htotal, hsumk, hk, hidx, hid, hn, hrecord, hcls⟩ := exec_ioFrame hi h
  obtain ⟨hheader, hfooter⟩ := Prod.mk.inj hresults
  obtain ⟨hbuf, hside⟩ := engineNeverWritesTheHostsSide i hrow s s' h
  exact ⟨hheader, hfooter, exec_row_errRegs hrow h, htotal, hsumk, hk, hidx, hid, hn, hrecord, hcls, hside, hbuf⟩

/-! ### TOTAL bounds nothing (R179, R181) -/

/-- Another value in TOTAL. -/
def withTotal (v : BitVec 16) (s : State) : State := { s with total := v }

/-- Other values in TOTAL and in CMM, the diagnostic that compares with it. -/
def withDiagnostic (v : BitVec 16) (b : Bool) (s : State) : State := { s with total := v, cmm := b }

section Total
variable (v : BitVec 16) {i : Instr} {s s' : State}

/-- An outcome is the state `s'`, but with `v` in TOTAL and some value in CMM. -/
def LeadsBesidesCmm (o : Host.Outcome State Fault Refusal) (s' : State) : Prop :=
  ∃ b, o = .next (withDiagnostic v b s')

/-- The state itself with another TOTAL, CMM as it was. -/
theorem leadsBesidesCmm_withTotal (s' : State) : LeadsBesidesCmm v (.next (withTotal v s')) s' := ⟨s'.cmm, rfl⟩

theorem readWidth_withTotal (i : Instr) (s : State) : readWidth i (withTotal v s) = readWidth i s := by
  cases i <;> rfl

/-- Whether a step completes, and with which bytes, does not depend on TOTAL. -/
theorem Ready.withTotal {bs : List Byte} (ready : Ready i s bs) : Ready i (withTotal v s) bs := by
  obtain ⟨hbounds, hroom, hbytes⟩ := ready
  rw [← readWidth_withTotal v] at hbounds hbytes
  exact ⟨hbounds, hroom, hbytes⟩

theorem raiseError_withTotal {e : ErrKind} (h : raiseError i e s = .next s') :
    raiseError i e (withTotal v s) = .next (withTotal v s') := by
  cases hroom : hasRoom 1 s with
  | true =>
    rw [raiseError_of_room hroom] at h
    cases h
    exact raiseError_of_room (s := withTotal v s) hroom e
  | false =>
    rw [raiseError_of_full hroom] at h
    cases h
    exact raiseError_of_full (s := withTotal v s) hroom e

theorem finish_withTotal {x : Effect} (h : finish i s x = .next s') (b : Bool) :
    LeadsBesidesCmm v (finish i (withTotal v s) (x.map (withDiagnostic v b))) s' := by
  cases x with
  | commit ts t =>
    cases h
    exact ⟨b, rfl⟩
  | raise e =>
    have hraise := raiseError_withTotal v (show raiseError i e s = .next s' from h)
    exact ⟨s'.cmm, hraise⟩

/-- Why a reading step answers a next state: the hold test, the bounds test, or its rule. -/
theorem extract_next_tests {body : List Byte → State → Effect} (h : extract i body s = .next s') :
    (s.pos.toNat + readWidth i s ≤ s.len.toNat ∧ hasRoom (successTokens i) s = false ∧ s' = s) ∨
    (s.len.toNat < s.pos.toNat + readWidth i s ∧ raiseError i .truncatedFrame s = .next s') ∨
    ∃ bs, Ready i s bs ∧ finish i s (body bs (advance (readWidth i s) s)) = .next s' := by
  rcases Nat.lt_or_ge s.len.toNat (s.pos.toNat + readWidth i s) with hshort | hin
  · rw [extract_truncated body hshort] at h
    exact .inr (.inl ⟨hshort, h⟩)
  · cases hroom : hasRoom (successTokens i) s with
    | false =>
      rw [extract_hold body hin hroom] at h
      cases h
      exact .inl ⟨hin, rfl, rfl⟩
    | true =>
      cases hbytes : readBytes s.buf s.pos.toNat (readWidth i s) with
      | none =>
        unfold extract at h
        simp [hin, hroom, hbytes] at h
      | some bs =>
        have ready : Ready i s bs := ⟨hin, hroom, hbytes⟩
        rw [extract_ready body ready] at h
        exact .inr (.inr ⟨bs, ready, h⟩)

/-- A reading step looks at TOTAL only through its rule. -/
theorem extract_withTotal {body body' : List Byte → State → Effect} (h : extract i body s = .next s')
    (hbody : ∀ bs t, ∃ b, body' bs (withTotal v t) = (body bs t).map (withDiagnostic v b)) :
    LeadsBesidesCmm v (extract i body' (withTotal v s)) s' := by
  rcases extract_next_tests h with ⟨hin, hroom, rfl⟩ | ⟨hshort, hraise⟩ | ⟨bs, ready, hfinish⟩
  · rw [← readWidth_withTotal v] at hin
    rw [extract_hold (s := withTotal v _) body' hin hroom]
    exact leadsBesidesCmm_withTotal v _
  · rw [← readWidth_withTotal v] at hshort
    rw [extract_truncated (s := withTotal v s) body' hshort, raiseError_withTotal v hraise]
    exact leadsBesidesCmm_withTotal v s'
  · obtain ⟨b, hb⟩ := hbody bs (advance (readWidth i s) s)
    have hrule : body' bs (advance (readWidth i (withTotal v s)) (withTotal v s)) =
        (body bs (advance (readWidth i s) s)).map (withDiagnostic v b) := by
      rw [readWidth_withTotal]
      exact hb
    rw [extract_ready body' (ready.withTotal v), hrule]
    exact finish_withTotal v hfinish b

/-- END_GROUP compares with TOTAL only for CMM (R179). -/
theorem endGroup_withTotal (c : BitVec 3) (sk : Nat) (s : State) :
    ∃ b, endGroup c sk (withTotal v s) = withDiagnostic v b (endGroup c sk s) := by
  unfold endGroup
  split
  · exact ⟨s.cmm, rfl⟩
  · exact ⟨cmmAfter s.cmm sk v, rfl⟩

theorem endEntry_withTotal (c : BitVec 3) (s : State) :
    ∃ b, endEntry c (withTotal v s) = withDiagnostic v b (endEntry c s) := by
  rcases endEntry_cases c s with ⟨hlast, heq⟩ | ⟨hmore, heq⟩ <;> rw [heq]
  · obtain ⟨b, hb⟩ := endGroup_withTotal v c s.sumk.toNat { s with idx := BitVec.ofNat 16 (s.idx.toNat + 1) }
    exact ⟨b, (if_pos hlast).trans hb⟩
  · exact ⟨s.cmm, if_neg hmore⟩

theorem execLenChk_withTotal (h : execLenChk s = .next s') :
    LeadsBesidesCmm v (execLenChk (withTotal v s)) s' := by
  refine ⟨s'.cmm, ?_⟩
  unfold execLenChk at h
  split at h
  · rename_i hshort
    exact (if_pos hshort).trans (raiseError_withTotal v h)
  · rename_i hlong
    refine (if_neg hlong).trans ?_
    split at h <;> rename_i hroom <;> cases h
    · exact if_pos hroom
    · exact if_neg hroom

theorem execHdrImei_withTotal (h : execHdrImei s = .next s') :
    LeadsBesidesCmm v (execHdrImei (withTotal v s)) s' := by
  refine extract_withTotal v h fun bs t => ⟨t.cmm, ?_⟩
  cases allAscii bs <;> rfl

theorem groupCount_withTotal {c : BitVec 3} (h : groupCount i c s = .next s') :
    LeadsBesidesCmm v (groupCount i c (withTotal v s)) s' := by
  refine extract_withTotal v h fun bs t => ?_
  by_cases hzero : field 16 bs = 0#16
  · obtain ⟨b, hb⟩ := endGroup_withTotal v c (s.sumk.toNat + (field 16 bs).toNat) (countRead s.sumk (field 16 bs) t)
    refine ⟨b, congrArg (Effect.commit _) ?_⟩
    rw [if_pos hzero, if_pos hzero]
    exact hb
  · refine ⟨t.cmm, congrArg (Effect.commit _) ?_⟩
    rw [if_neg hzero, if_neg hzero]
    rfl

theorem entryValue_withTotal {c : BitVec 3} {pack : List Byte → DWord} (h : entryValue i c pack s = .next s') :
    LeadsBesidesCmm v (entryValue i c pack (withTotal v s)) s' :=
  extract_withTotal v h fun _ t => (endEntry_withTotal v c t).imp fun _ hb => congrArg (Effect.commit _) hb

theorem execVarData_withTotal (h : execVarData s = .next s') :
    LeadsBesidesCmm v (execVarData (withTotal v s)) s' :=
  extract_withTotal v h fun _ t => (endEntry_withTotal v 4#3 t).imp fun _ hb => congrArg (Effect.commit _) hb

/-- Every micro-operation but IO_TOTAL leads to the same state but for CMM, whatever TOTAL holds. -/
theorem exec_withTotal (hi : i ∈ uopRows) (htotal : i ≠ .ioTotal) (h : exec i s = .next s') :
    LeadsBesidesCmm v (exec i (withTotal v s)) s' := by
  cases i with
  | start _ | clear _ => simp [uopRows] at hi
  | ioTotal => exact absurd rfl htotal
  | idle | done | error =>
    cases h
    exact leadsBesidesCmm_withTotal v s
  | lenChk => exact execLenChk_withTotal v h
  | hdrImei => exact execHdrImei_withTotal v h
  | grpCnt1 | grpCnt2 | grpCnt4 | grpCnt8 | grpCntX => exact groupCount_withTotal v h
  | entVal1 | entVal2 | entVal4 | entVal8 => exact entryValue_withTotal v h
  | varData => exact execVarData_withTotal v h
  | hdrPre | hdrZero | hdrFlen | hdrCodec | hdrNrec | recTs | recPrio | recLon | recLat | recAlt | recAng | recSat | recSpd
  | ioEvid | entId1 | entId2 | entId4 | entId8 | entIdX | varLen | ftrNrec2 | ftrCrc =>
    simp only [exec, execHdrPre, execHdrZero, execHdrFlen, execHdrCodec, execHdrNrec, recordField, execRecTs, execRecPrio,
      execRecLon, execRecLat, execRecAlt, execRecAng, execRecSat, execRecSpd, execIoEvid, entryId, execEntId1, execEntId2,
      execEntId4, execEntId8, execEntIdX, execVarLen, execFtrNrec2, execFtrCrc] at h ⊢
    exact extract_withTotal v h fun _ t => ⟨t.cmm, rfl⟩

end Total

/-- Settles O51: only END_RECORD compares with TOTAL, and it writes the outcome to CMM alone. -/
theorem totalChangesOnlyTheDiagnostic : Obligations.TotalChangesOnlyTheDiagnostic := by
  unfold Obligations.TotalChangesOnlyTheDiagnostic
  intro i hi htotal s s' v h
  obtain ⟨b, hb⟩ := exec_withTotal v hi htotal h
  exact ⟨withDiagnostic v b s', hb, rfl, rfl⟩

end Sys2Proof.Machine

/-!
PROOFS. The footer family of 43_footer.md: what FTR_NREC2 and FTR_CRC complete with (O30), and what they, DONE and ERROR
leave unchanged (O46).
-/
namespace Sys2Proof.Machine

/-! ### What the footer steps do -/

/-- Settles O30: both steps are ready and commit whatever bytes they read (R194); the big-endian field is the bytes side
by side (R64), and END_OK reports POS as moved past the checksum. -/
theorem footerStepsComplete : Obligations.FooterStepsComplete := by
  unfold Obligations.FooterStepsComplete
  refine ⟨fun s b ready => ?nrec2, fun s b0 b1 b2 b3 ready => ?crc⟩
  case nrec2 =>
    show execFtrNrec2 s = _
    rw [execFtrNrec2, extract_of_ready _ ready, field_u8]
    rfl
  case crc =>
    show execFtrCrc s = _
    rw [execFtrCrc, extract_of_ready _ ready, field_u32]
    rfl

/-! ### What the footer steps leave unchanged -/

/-- What a reading step whose rule raises no error keeps: anything that neither ERROR ENTRY nor its commit changes. -/
theorem extract_commit_keeps {α : Type} (f : State → α) {i : Instr} {s s' : State}
    {toks : List Byte → State → List Token} {regs : List Byte → State → State}
    (h : extract i (fun bs t => .commit (toks bs t) (regs bs t)) s = .next s')
    (herror : ∀ e, f (errorEntry (uopCode i) e s) = f s)
    (hcommit : ∀ bs, f (emit (toks bs (advance (readWidth i s) s)) (regs bs (advance (readWidth i s) s))) = f s) :
    f s' = f s := by
  rcases extract_next_cases h with rfl | ⟨e, -, rfl⟩ | ⟨bs, ts, t, -, heffect, rfl⟩
  · rfl
  · exact herror e
  · cases heffect
    exact hcommit bs

/-- The registers of the header, the records and the IO element, which the footer only reads. -/
def beforeFooterRegs (s : State) := (headerRegs s, ioRegs s, s.recDone, s.cmm, s.cls)

/-- What row `i` of the footer family leaves as it was on every path, beside the host's side and the error registers
(R190 to R193). -/
structure FooterFrame (i : Instr) (s t : State) : Prop where
  before : beforeFooterRegs t = beforeFooterRegs s
  nrec2 : i ≠ .ftrNrec2 → t.nrec2 = s.nrec2
  crc : i ≠ .ftrCrc → t.crc = s.crc

theorem FooterFrame.refl (i : Instr) (s : State) : FooterFrame i s s := ⟨rfl, fun _ => rfl, fun _ => rfl⟩

theorem execFtrNrec2_footerFrame {s s' : State} (h : execFtrNrec2 s = .next s') : FooterFrame .ftrNrec2 s s' where
  before := extract_commit_keeps beforeFooterRegs h (fun _ => rfl) (fun _ => rfl)
  nrec2 hne := absurd rfl hne
  crc _ := extract_commit_keeps State.crc h (fun _ => rfl) (fun _ => rfl)

theorem execFtrCrc_footerFrame {s s' : State} (h : execFtrCrc s = .next s') : FooterFrame .ftrCrc s s' where
  before := extract_commit_keeps beforeFooterRegs h (fun _ => rfl) (fun _ => rfl)
  nrec2 _ := extract_commit_keeps State.nrec2 h (fun _ => rfl) (fun _ => rfl)
  crc hne := absurd rfl hne

/-- DONE and ERROR rest: they answer the state itself (R192, R193; log 5). -/
theorem exec_ended_next {i : Instr} (hi : i = .done ∨ i = .error) {s s' : State} (h : exec i s = .next s') :
    s' = s := by
  rcases hi with rfl | rfl <;> exact (Host.Outcome.next.inj h).symm

/-- FTR_NREC2, FTR_CRC, DONE and ERROR (R190 to R193). -/
def footerRows : List Instr := [.ftrNrec2, .ftrCrc, .done, .error]

theorem exec_footerFrame {i : Instr} (hi : i ∈ footerRows) {s s' : State} (h : exec i s = .next s') :
    FooterFrame i s s' := by
  cases i
  case ftrNrec2 => exact execFtrNrec2_footerFrame h
  case ftrCrc => exact execFtrCrc_footerFrame h
  case done =>
    rw [exec_ended_next (.inl rfl) h]
    exact .refl ..
  case error =>
    rw [exec_ended_next (.inr rfl) h]
    exact .refl ..
  all_goals simp [footerRows] at hi

theorem mem_uopRows_of_footerRows {i : Instr} (hi : i ∈ footerRows) : i ∈ uopRows :=
  (by decide : footerRows ⊆ uopRows) hi

/-- Settles O46: BUF, the host's side and the error registers by what holds of every row, the other registers by the
family's own frame. -/
theorem footerStepsFrame : Obligations.FooterStepsFrame := by
  unfold Obligations.FooterStepsFrame
  intro i hi s s' h
  have hrow : i ∈ uopRows := mem_uopRows_of_footerRows hi
  obtain ⟨hbefore, hnrec2, hcrc⟩ := exec_footerFrame hi h
  simp only [beforeFooterRegs, Prod.mk.injEq] at hbefore
  obtain ⟨hheader, hio, hrecDone, hcmm, hcls⟩ := hbefore
  obtain ⟨hbuf, hside⟩ := engineNeverWritesTheHostsSide i hrow s s' h
  exact ⟨fun hended => exec_ended_next hended h, hheader, hio, hnrec2, hcrc, exec_row_errRegs hrow h, hrecDone, hcmm,
    hcls, hside, hbuf⟩

end Sys2Proof.Machine

/-!
PROOFS. The host commands and the CSRs of 44_host_commands.md: what START and CLEAR do and leave unchanged (O31, O47),
the order of a CTRL write (O32), and what the other CSR accesses do (O33 to O35).
-/
namespace Sys2Proof.Machine

/-! ### What START and CLEAR do -/

/-- During a decode START and CLEAR are ignored, but for IRQ_EN (R204, R210). -/
theorem exec_start_of_busy {s : State} (hbusy : busy s = true) (v : Word) :
    exec (.start v) s = .next (setIrqEn v s) := if_pos hbusy

theorem exec_clear_of_busy {s : State} (hbusy : busy s = true) (v : Word) :
    exec (.clear v) s = .next (setIrqEn v s) := if_pos hbusy

/-- At rest START over a loaded frame begins a decode (R202, R253). -/
theorem exec_start_of_loaded {s : State} (hrest : busy s = false) (hlen : s.len.toNat ≤ Config.maxLen)
    (hloaded : ∀ a, a < s.len.toNat → a ∈ s.written) (v : Word) :
    exec (.start v) s = .next (clearDecode StateCode.lenChk (setIrqEn v s)) := by
  rcases execStart_cases v s with ⟨hbusy, -⟩ | ⟨-, hbeyond, -⟩ | ⟨-, -, -, hx⟩ | ⟨-, -, hgap, -⟩
  · exact absurd hbusy (ne_true_of_eq_false hrest)
  · exact absurd hlen (Nat.not_le_of_lt hbeyond)
  · exact hx
  · exact absurd hloaded hgap

/-- At rest CLEAR returns the block to IDLE (R203). -/
theorem exec_clear_of_rest {s : State} (hrest : busy s = false) (v : Word) :
    exec (.clear v) s = .next (clearDecode StateCode.idle (setIrqEn v s)) := if_neg (ne_true_of_eq_false hrest)

/-- Clearing the decode registers gives them their reset values; the host's registers, OUTQ, BUF and the agents' data
stay (R202, R44). -/
theorem clearDecode_eq_reset (c : BitVec 5) (s : State) : clearDecode c s =
    { State.reset with
      state := c, len := s.len, irqEn := s.irqEn, outq := s.outq, buf := s.buf, written := s.written,
      agenda := s.agenda, rdata := s.rdata, partialFrame := s.partialFrame, frames := s.frames } := rfl

/-- Settles O31: at rest both commands clear the decode registers, which is to give them their reset values. -/
theorem commandsClearAndGo : Obligations.CommandsClearAndGo := by
  unfold Obligations.CommandsClearAndGo
  refine ⟨fun s v hrest hlen hloaded => ?start, fun s v hrest => ?clear⟩
  case start => exact (exec_start_of_loaded hrest hlen hloaded v).trans (congrArg _ (clearDecode_eq_reset ..))
  case clear => exact (exec_clear_of_rest hrest v).trans (congrArg _ (clearDecode_eq_reset ..))

/-- Everything a command that goes on can do: set IRQ_EN, and at rest clear the decode registers too (R202 to R204). -/
theorem exec_command_next {v : Word} {s s' : State} (h : exec (.start v) s = .next s' ∨ exec (.clear v) s = .next s') :
    s' = setIrqEn v s ∨ ∃ c, s' = clearDecode c (setIrqEn v s) := by
  rcases h with h | h
  · rcases execStart_cases v s with ⟨-, hx⟩ | ⟨-, -, hx⟩ | ⟨-, -, -, hx⟩ | ⟨-, -, -, hx⟩ <;> rw [hx] at h <;> cases h
    · exact .inl rfl
    · exact .inr ⟨_, rfl⟩
  · rcases execClear_cases v s with ⟨-, hx⟩ | ⟨-, hx⟩ <;> rw [hx] at h <;> cases h
    · exact .inl rfl
    · exact .inr ⟨_, rfl⟩

/-- Settles O47: neither setting IRQ_EN nor clearing the decode registers touches what the statement names. -/
theorem commandsFrame : Obligations.CommandsFrame := by
  unfold Obligations.CommandsFrame
  intro s s' v h
  rcases exec_command_next h with rfl | ⟨c, rfl⟩ <;> simp

/-! ### Writing and reading a CSR -/

theorem step_of_ctrl {s : State} {v : Word} {rest : List Move} (h : s.agenda = .csrWrite Csr.ctrl allLanes v :: rest) :
    step s = writeCtrl v { s with agenda := rest } := by
  rw [step_of_csrWrite h, writeCsr_ctrl]

/-- While BUSY a CTRL write sets IRQ_EN and nothing else, whatever command it holds (R204, R210, R211). -/
theorem writeCtrl_of_busy {s : State} (hbusy : busy s = true) (v : Word) : writeCtrl v s = .next (setIrqEn v s) := by
  rcases writeCtrl_cases v s with ⟨-, hx⟩ | ⟨-, -, hx⟩ | ⟨-, -, hx⟩
  · exact hx.trans (exec_start_of_busy hbusy v)
  · exact hx.trans (exec_clear_of_busy hbusy v)
  · exact hx

/-- A CTRL write with neither command bit sets IRQ_EN and nothing else (R211). -/
theorem writeCtrl_of_no_command {v : Word} (h0 : v.getLsbD 0 = false) (h1 : v.getLsbD 1 = false) (s : State) :
    writeCtrl v s = .next (setIrqEn v s) := by
  unfold writeCtrl decodeCtrl
  rw [h0, h1]
  rfl

/-- Settles O32: BUSY comes first, then bit 0, then bit 1. -/
theorem ctrlWriteOrder : Obligations.CtrlWriteOrder := by
  unfold Obligations.CtrlWriteOrder
  intro s v rest hagenda
  refine ⟨fun hbusy => ?busy, fun hrest h0 hlen hloaded => ?start, fun hrest h0 h1 => ?clear, fun _ h0 h1 => ?neither⟩
  case busy => exact (step_of_ctrl hagenda).trans (writeCtrl_of_busy (s := { s with agenda := rest }) hbusy v)
  case start =>
    exact (step_of_ctrlWrite (decodeCtrl_eq_ok_iff.2 (.inl ⟨rfl, h0⟩)) hagenda).trans
      (exec_start_of_loaded (s := { s with agenda := rest }) hrest hlen hloaded v)
  case clear =>
    exact (step_of_ctrlWrite (decodeCtrl_eq_ok_iff.2 (.inr ⟨rfl, h0, h1⟩)) hagenda).trans
      (exec_clear_of_rest (s := { s with agenda := rest }) hrest v)
  case neither => exact (step_of_ctrl hagenda).trans (writeCtrl_of_no_command h0 h1 _)

theorem writeLen_of_busy {s : State} (hbusy : busy s = true) (v : Word) : writeLen v s = s := if_pos hbusy

/-- Settles O33: the step is `writeLen`, which BUSY decides. -/
theorem lenWriteIsIgnoredWhileBusy : Obligations.LenWriteIsIgnoredWhileBusy := by
  unfold Obligations.LenWriteIsIgnoredWhileBusy
  intro s v rest hagenda
  rw [step_of_csrWrite hagenda, writeCsr_len]
  exact ⟨fun hbusy => congrArg _ (writeLen_of_busy (s := { s with agenda := rest }) hbusy v),
    fun hrest => congrArg _ (writeLen_of_rest (s := { s with agenda := rest }) hrest v)⟩

/-- Only CTRL and LEN are writable (R201, R206). -/
theorem writeCsr_of_read_only {off : Word} (haligned : off.toNat % 4 = 0) (hctrl : off ≠ Csr.ctrl) (hlen : off ≠ Csr.len)
    (v : Word) (s : State) : writeCsr off allLanes v s = .next s := by
  unfold writeCsr
  rw [if_pos (csrAligned_iff.2 ⟨haligned, rfl⟩), if_neg hctrl, if_neg hlen]

/-- Settles O34: the write is aligned and its offset is neither CTRL nor LEN. -/
theorem writesToReadOnlyRegistersAreIgnored : Obligations.WritesToReadOnlyRegistersAreIgnored := by
  unfold Obligations.WritesToReadOnlyRegistersAreIgnored
  intro s off v rest hagenda haligned hctrl hlen
  exact (step_of_csrWrite hagenda).trans (writeCsr_of_read_only haligned hctrl hlen v _)

/-- An aligned read gives the host the register's value (R207). -/
theorem readCsr_of_aligned {off : Word} (haligned : off.toNat % 4 = 0) (s : State) :
    readCsr off allLanes s = .next { s with rdata := csrValue off s } :=
  if_pos (csrAligned_iff.2 ⟨haligned, rfl⟩)

/-- No register's value depends on the moves still to come. -/
theorem csrValue_withAgenda (off : Word) (rest : List Move) (s : State) :
    csrValue off { s with agenda := rest } = csrValue off s := rfl

/-- Settles O35: the step is an aligned read, after the move is taken off the agenda. -/
theorem csrReadHasNoSideEffect : Obligations.CsrReadHasNoSideEffect := by
  unfold Obligations.CsrReadHasNoSideEffect
  intro s off rest hagenda haligned
  rw [step_of_csrRead hagenda, readCsr_of_aligned haligned, csrValue_withAgenda]

end Sys2Proof.Machine

/-!
PROOFS. The exceptions of 60_exceptions.md: what error entry writes (O16), the level of the interrupt line and what
makes it fall (O40), and that the blocks of a platform share no state (O55).
-/
namespace Sys2Proof.Machine

/-! ### Error entry -/

/-- Error entry writes ERR, ERR_UOP, ERR_POS, STATE and the END_ERR token, whose value is {POS, 0, ERR_UOP, 0, ERR}
(R226, R97). -/
theorem errorEntry_eq (u : BitVec 8) (e : ErrKind) (s : State) : errorEntry u e s =
    { s with
      state := StateCode.error, err := errCode e, errUop := u, errPos := s.pos,
      outq := s.outq ++ [{ tag := tagEndErr, recNo := s.recDone, ioId := 0#16,
                           value := s.pos ++ 0#16 ++ u ++ 0#5 ++ errCode e }] } := rfl

/-- Settles O16: with room for its token, raising an error is error entry. -/
theorem errorEntryIsPrecise : Obligations.ErrorEntryIsPrecise := by
  unfold Obligations.ErrorEntryIsPrecise
  intro i e s hroom
  rw [raiseError_of_room hroom, errorEntry_eq]

/-! ### The interrupt line -/

/-- The line's level (R232). -/
theorem irq_iff {s : State} : irq s = true ↔ s.irqEn = true ∧ (s.state = 0x1E#5 ∨ s.state = 0x1F#5) := by
  simp [irq, irqPend, doneFlag, errorFlag]

theorem irq_of_irqEn_false {s : State} (h : s.irqEn = false) : irq s = false := by
  refine Bool.eq_false_iff.2 fun hirq => ?_
  obtain ⟨hen, -⟩ := irq_iff.1 hirq
  exact absurd hen (ne_true_of_eq_false h)

theorem irq_of_state_ne {s : State} (hdone : s.state ≠ 0x1E#5) (herror : s.state ≠ 0x1F#5) : irq s = false := by
  refine Bool.eq_false_iff.2 fun hirq => ?_
  obtain ⟨-, hpend⟩ := irq_iff.1 hirq
  exact hpend.elim hdone herror

/-- The line depends on IRQ_EN and STATE alone, so not on the data a read gives the host. -/
theorem irq_withRdata (w : Word) (s : State) : irq { s with rdata := w } = irq s := rfl

/-- A command taken at rest leaves STATE at LEN_CHK (START) or at IDLE (CLEAR) (R202, R203). -/
theorem exec_command_state_of_rest {v : Word} {s s' : State} (hrest : busy s = false)
    (h : exec (.start v) s = .next s' ∨ exec (.clear v) s = .next s') :
    s'.state = StateCode.lenChk ∨ s'.state = StateCode.idle := by
  rcases h with hstart | hclear
  · rcases execStart_cases v s with ⟨hbusy, -⟩ | ⟨-, -, hx⟩ | ⟨-, -, -, hx⟩ | ⟨-, -, -, hx⟩
    · exact absurd hbusy (ne_true_of_eq_false hrest)
    · exact nomatch hx.symm.trans hstart
    · cases hx.symm.trans hstart
      exact .inl rfl
    · exact nomatch hx.symm.trans hstart
  · rw [exec_clear_of_rest hrest] at hclear
    cases hclear
    exact .inr rfl

/-- Settles O40: a command at rest leaves DONE and ERROR, bit 2 = 0 and reset put IRQ_EN at 0, and a read changes
neither STATE nor IRQ_EN. -/
theorem interruptLineIsLevel : Obligations.InterruptLineIsLevel := by
  unfold Obligations.InterruptLineIsLevel
  refine ⟨fun s => irq_iff, fun s s' v hrest h => ?command, fun s v hv => irq_of_irqEn_false hv,
    fun s => irq_of_irqEn_false rfl, fun s s' off lanes h => ?read⟩
  case command =>
    rcases exec_command_state_of_rest hrest h with hstate | hstate <;>
      exact irq_of_state_ne (by simp [hstate]) (by simp [hstate])
  case read =>
    obtain ⟨-, rfl⟩ := readCsr_next h
    exact irq_withRdata ..

/-! ### The blocks of a platform -/

/-- Settles O55: a platform's step replaces block `j` by its successor in the list of blocks. -/
theorem platformBlocksShareNoState : Obligations.PlatformBlocksShareNoState := by
  unfold Obligations.PlatformBlocksShareNoState
  intro j blocks blocks' h
  obtain ⟨s, s', hj, hstep, rfl⟩ := platformStep_some h
  obtain ⟨hlt, -⟩ := List.getElem?_eq_some_iff.1 hj
  exact ⟨List.length_set, fun k hk => List.getElem?_set_ne hk.symm, s, s', hj, hstep, List.getElem?_set_self hlt⟩

end Sys2Proof.Machine

/-!
PROOFS. The reset of 70_reset_and_hazards.md: the state a reset move leaves (O41).
-/
namespace Sys2Proof.Machine

theorem step_of_reset {s : State} {rest : List Move} (h : s.agenda = .reset :: rest) :
    step s = .next (resetBlock { s with agenda := rest }) := by
  unfold step takeTurn
  rw [h]

/-- Of the state before it, reset keeps BUF, the moves still to come, the host's last read and the frames the consumer
has received (R252; log 20). -/
theorem resetBlock_withAgenda (rest : List Move) (s : State) :
    resetBlock { s with agenda := rest } =
      { State.reset with buf := s.buf, agenda := rest, rdata := s.rdata, frames := s.frames } := rfl

/-- Settles O41: the step is reset, after the move is taken off the agenda. -/
theorem resetMoveResetsTheBlock : Obligations.ResetMoveResetsTheBlock := by
  unfold Obligations.ResetMoveResetsTheBlock
  intro s rest hagenda
  rw [step_of_reset hagenda, resetBlock_withAgenda]

end Sys2Proof.Machine
